-- ==== Sys2Proof/Word.lean ====
section
/-! DEFINITION. The word types of the node: a byte, a set of stations, and the three components. -/

namespace Sys2Proof

/-- A byte of a frame, a record, the image or a converter result. -/
abbrev Byte := BitVec 8

/-- A set of stations, station k at bit k (R194). -/
abbrev StationSet := BitVec 16

/-- One value for each of the components X, Y and Z (numbered 0, 1, 2; 06 R104). -/
structure Triple (α : Type) where
  x : α
  y : α
  z : α
  deriving DecidableEq, Repr

/-- A component of the fluxgate. -/
inductive Comp where
  | x
  | y
  | z
  deriving DecidableEq, Repr

end Sys2Proof
end

