-- ==== Sys2Proof/Syntax.lean ====
section
/-! DEFINITION. The commands of the node: one constructor per row of spec/opcode_table.json. The table gives no row a
field; the operands are what the rule of the row says reaches the node from outside (log entry 2). -/

namespace Sys2Proof

/-- The converters on the converter port (R105, R199): three field converters, the temperature converter, the counter. -/
inductive Converter where
  | fc0
  | fc1
  | fc2
  | tc
  | sc
  deriving DecidableEq, Repr

/-- The seven strap pins (R185): station 0 to 15, role code 0 to 3, image enable. -/
structure Straps where
  station : Nat
  role : Nat
  image : Bool
  deriving DecidableEq, Repr

/-- What the node's pins show at one oscillator tick: whether the supply is in its range (R180), whether RESET_N reads
high (R181), whether a station other than this node drives the line active (R52), and whether the label input is low
(R46). -/
structure TickPins where
  supplyGood : Bool
  resetHigh : Bool
  lineActive : Bool
  labelLow : Bool
  deriving DecidableEq, Repr

/-- What the end of the last reset gives a start sequence: the straps, and the last stage of the sequence, 1 to 8, taken
before anything else reaches the node (R184, R185). -/
structure Begin where
  straps : Straps
  through : Nat
  deriving DecidableEq, Repr

/-- What ends the image read: the level of the data input at each edge of the port clock in the bytes the EEPROM gives,
from address 0, and the last stage of the start sequence, 2 to 8, taken before anything else reaches the node (R184, R186,
R199). -/
structure ImageBytes where
  levels : List Bool
  through : Nat
  deriving DecidableEq, Repr

inductive Instr where
  /-- OSCILLATOR_TICK (R3) -/
  | oscillatorTick (pins : TickPins)
  /-- ROUND_END (R17) -/
  | roundEnd
  /-- MARK_INSTANT (R19) -/
  | markInstant
  /-- LEAD_EDGE (R60) -/
  | leadEdge
  /-- RECEIVER_READY (R60) -/
  | receiverReady
  /-- RECEPTION_TRUNCATED (R61) -/
  | receptionTruncated
  /-- CHECK_FAILED (R61) -/
  | checkFailed
  /-- MARK_RECEIVED (R22) -/
  | markReceived
  /-- BLOCK_RECEIVED (R75) -/
  | blockReceived
  /-- STATE_RECEIVED (R62) -/
  | stateReceived
  /-- ASK_RECEIVED (R79) -/
  | askReceived
  /-- DEFER_RECEIVED (R85) -/
  | deferReceived
  /-- WITHDRAW_RECEIVED (R99) -/
  | withdrawReceived
  /-- RECALL_RECEIVED (R159) -/
  | recallReceived
  /-- CLEAR_RECEIVED (R172) -/
  | clearReceived
  /-- UNKNOWN_KIND_RECEIVED (R62) -/
  | unknownKindReceived
  /-- ATTEMPT_START (R64) -/
  | attemptStart
  /-- FRAME_SENT (R65) -/
  | frameSent
  /-- COLLISION (R66) -/
  | collision
  /-- JAM_END (R66) -/
  | jamEnd
  /-- BACKOFF_END (R67) -/
  | backoffEnd
  /-- STUCK_LIMIT (R57) -/
  | stuckLimit
  /-- STUCK_RELEASE (R57) -/
  | stuckRelease
  /-- DEFER_DEADLINE (R72) -/
  | deferDeadline
  /-- PULSE (R40) -/
  | pulse
  /-- ABSENCE_DEADLINE (R44) -/
  | absenceDeadline
  /-- LABEL_CHARACTER (R46): the character, and whether its stop bit was low -/
  | labelCharacter (char : Byte) (stopLow : Bool)
  /-- LABEL_GAP (R46) -/
  | labelGap
  /-- LABEL_EXPIRY (R47) -/
  | labelExpiry
  /-- RESPONSE_END (R88) -/
  | responseEnd
  /-- WINDOW_START (R89) -/
  | windowStart
  /-- WINDOW_END (R89) -/
  | windowEnd
  /-- WAIT_END (R90) -/
  | waitEnd
  /-- ENTRY_END (R98) -/
  | entryEnd
  /-- BLANK_ALL_END (R100) -/
  | blankAllEnd
  /-- HELD_WINDOW_EXPIRY (R100) -/
  | heldWindowExpiry
  /-- TRIGGER_INSTANT (R107) -/
  | triggerInstant
  /-- TRANSFER_BEGIN (R105) -/
  | transferBegin
  /-- START_COMPLETE (R106) -/
  | startComplete
  /-- POLL (R106): of the converter named -/
  | poll (conv : Converter)
  /-- POLL_COMPLETE (R106): with the level of the data input at each edge of the port clock in the status byte (R199) -/
  | pollComplete (levels : List Bool)
  /-- RESULT_ARRIVAL (R106): with the level of the data input at each edge of the port clock in the bytes taken (R199) -/
  | resultArrival (levels : List Bool)
  /-- CONVERSION_DEADLINE (R106): of the converter named -/
  | conversionDeadline (conv : Converter)
  /-- SECOND_CLOSURE (R109) -/
  | secondClosure
  /-- PROBE_SCAN (R115) -/
  | probeScan
  /-- ASK_INSTANT (R118) -/
  | askInstant
  /-- COUNT_END (R120) -/
  | countEnd
  /-- ALARM_RELEASE (R170) -/
  | alarmRelease
  /-- STATE_PERIOD_EXPIRY (R175) -/
  | statePeriodExpiry
  /-- POWER_ON_RESET (R180) -/
  | powerOnReset
  /-- POWER_ON_RELEASE (R180): with the straps, read if the start sequence begins (R185), and the last stage taken (R184) -/
  | powerOnRelease (start : Begin)
  /-- EXTERNAL_RESET (R181) -/
  | externalReset
  /-- RESET_PIN_RELEASE (R181): with the straps and the last stage taken, as POWER_ON_RELEASE -/
  | resetPinRelease (start : Begin)
  /-- IMAGE_READ (R186): with the levels of the data input in the image's bytes (R199) and the last stage taken (R184) -/
  | imageRead (image : ImageBytes)
  deriving DecidableEq, Repr

end Sys2Proof
end

