-- ==== Sys2Proof/Decode.lean ====
section
/-! DEFINITION. The command a word spells. No row of spec/opcode_table.json gives bits: the node takes events, it decodes
no words, so no word spells a command. -/

namespace Sys2Proof

/-- No row of the table has bits, so there is no word that spells a command. -/
def decodeTableWord (_nbits _w : Nat) : Option Instr := none

end Sys2Proof
end

