-- ==== Sys2Proof/Config.lean ====
section
/-! DEFINITION. The constants the spec fixes for every node. The spec leaves no value of the node open, so there is no
free value here; what an image may set stands in Machine/Blocks.lean as Settings. -/

namespace Sys2Proof.Config

/-- Nanoseconds in a second. -/
abbrev second : Nat := 1000000000
/-- Nanoseconds in a millisecond. -/
abbrev milli : Nat := 1000000
/-- The circle of node times, 2³² × 10⁹ ns (R2). -/
abbrev circle : Nat := 4294967296000000000
/-- Half the circle, 2³¹ × 10⁹ ns (R2). -/
abbrev halfCircle : Nat := 2147483648000000000
/-- Sub-nanosecond units in a nanosecond (R1). -/
abbrev suPerNs : Nat := 10000000
/-- The largest slew portion of a tick, su (R4). -/
abbrev slewPortion : Nat := 500000
/-- The trim's bound, ppb (R8). -/
abbrev trimLimit : Nat := 10000
/-- The bound of a stored offset, ns (R22, R23). -/
abbrev offsetLimit : Nat := 1000000000000
/-- Idle run before a lead, ticks (R52). -/
abbrev startGap : Nat := 600
/-- An idle run inside a frame longer than this truncates it, ticks (R52). -/
abbrev truncationGap : Nat := 400
/-- Ticks of a bit and of a character (R52). -/
abbrev bitTicks : Nat := 20
abbrev charTicks : Nat := 200
/-- Ticks of a jam and of a back-off slot (R52). -/
abbrev jamTicks : Nat := 400
abbrev slotTicks : Nat := 2000
/-- Response deadline of a DEFER, stuck limit, stuck release, ticks (R52). -/
abbrev deferDeadline : Nat := 500000
abbrev stuckLimit : Nat := 500000
abbrev stuckRelease : Nat := 10000
/-- Failures at which a frame is dropped (R69). -/
abbrev dropFailures : Nat := 8
/-- Frames the window queue holds (R71), entries of the blanking list (R98), held windows (R100). -/
abbrev queueSize : Nat := 4
abbrev listSize : Nat := 8
abbrev heldSize : Nat := 4
/-- The guard of the overlap tests, ns (R92). -/
abbrev guardNs : Nat := 20000000
/-- The response time, ns (R84). -/
abbrev responseNs : Nat := 50000000
/-- Slots of the ring (R146), entries of the recent-F buffer (R140), records a RECALL may ask for (R159). -/
abbrev ringSize : Nat := 16384
abbrev bufferSize : Nat := 64
abbrev recallLimit : Nat := 256
/-- The bound of a stored field value, pT (R135). -/
abbrev fieldLimit : Nat := 400000000
/-- Ticks of the alarm pulse (R170) and of a second of the STATE period (R175, 10 MHz). -/
abbrev alarmTicks : Nat := 100000
abbrev ticksPerSecond : Nat := 10000000
/-- Deadlines of a conversion and the polling interval, ticks (R106). -/
abbrev fieldDeadline : Nat := 800000
abbrev slowDeadline : Nat := 2000000
abbrev pollTicks : Nat := 10000
/-- Ticks of one byte on the converter port at 2 MHz (06, 6.2). -/
abbrev portByteTicks : Nat := 40
/-- Ticks of good supply that end a power-on reset (R180), of a low pin that accept an external one (R181). -/
abbrev supplyTicks : Nat := 65536
abbrev pinTicks : Nat := 64
/-- The field length of format 0x01 (R198). -/
abbrev imageFields : Nat := 461

end Sys2Proof.Config
end

