-- ==== Sys2Proof/Machine/Time.lean ====
section
/-! DEFINITION. Node times on their circle (R2), the three roundings of the manual (00, Conventions), and the instants
that follow a fixed pattern of node time. -/

namespace Sys2Proof.Machine

/-- A node time: seconds × 10⁹ + nanoseconds, a point of the circle of 2³² × 10⁹ ns (R2). -/
abbrev NodeTime := Nat

/-- The difference a − b of two node times, −2³¹ × 10⁹ ≤ d < 2³¹ × 10⁹ (R2). -/
def diff (a b : Nat) : Int :=
  let d := (a % Config.circle + Config.circle - b % Config.circle) % Config.circle
  if d < Config.halfCircle then (d : Int) else (d : Int) - (Config.circle : Int)

/-- a is later than b (R2). -/
def later (a b : Nat) : Bool := decide (0 < diff a b)

/-- a is at or later than b (R14). -/
def notBefore (a b : Nat) : Bool := decide (0 ≤ diff a b)

/-- A node time plus a signed amount of nanoseconds (R2). -/
def plus (t : Nat) (c : Int) : Nat := (((t : Int) + c) % (Config.circle : Int)).toNat

/-- The later of two node times. -/
def latest (a b : Nat) : Nat := if later b a then b else a

/-- The instant lies in the interval, start inclusive, finish exclusive (00, Intervals). -/
def within (start finish t : Nat) : Bool := notBefore t start && later finish t

/-- The seconds of a node time. -/
def secondsOf (t : Nat) : Nat := t % Config.circle / Config.second

/-- The milliseconds of a node time's tag, rounded toward zero (R1). -/
def millisOf (t : Nat) : Nat := t % Config.second / Config.milli

/-- The node time of whole seconds, counted modulo 2³². -/
def ofSeconds (s : Nat) : Nat := s % 4294967296 * Config.second

/-- The quotient rounded half away from zero. -/
def roundHalfAway (num : Int) (den : Nat) : Int :=
  if 0 ≤ num then (((2 * num.natAbs + den) / (2 * den) : Nat) : Int)
  else -(((2 * num.natAbs + den) / (2 * den) : Nat) : Int)

/-- The quotient rounded toward zero. -/
def towardZero (num : Int) (den : Nat) : Int :=
  if 0 ≤ num then ((num.natAbs / den : Nat) : Int) else -((num.natAbs / den : Nat) : Int)

/-- The quotient rounded up, toward positive infinity. -/
def roundUp (num : Int) (den : Nat) : Int := -((-num) / (den : Int))

/-- The value held within two bounds, each by the nearer end. -/
def clampTo (lo hi v : Int) : Int := if v < lo then lo else if hi < v then hi else v

/-- The first multiple of the period later than t, on the circle. -/
def nextMultiple (period : Nat) (t : Nat) : Nat :=
  let n := t + (period - t % period)
  if n < Config.circle then n else 0

/-- The first instant of the pattern (a multiple of the period, plus the offset) later than t. -/
def nextInstant (period : Nat) (offset : Int) (t : Nat) : Nat :=
  plus (nextMultiple period (plus t (-offset))) offset

/-- The first instant of the pattern later than t, other than the one last taken (R18, R19, R125). -/
def nextOther (period : Nat) (offset : Int) (t : Nat) (taken : Option Nat) : Nat :=
  let n := nextInstant period offset t
  if taken = some n then nextInstant period offset n else n

/-- The first instant of the pattern at or later than t (R124). -/
def firstInstant (period : Nat) (offset : Int) (t : Nat) : Nat := nextInstant period offset (plus t (-1))

/-- The floor of the exact square root, by bits from the highest (R141). -/
def rootFrom : Nat → Nat → Nat → Nat
  | 0, _, r => r
  | b + 1, n, r => rootFrom b n (if (r + 2 ^ b) * (r + 2 ^ b) ≤ n then r + 2 ^ b else r)

/-- The floor of the square root of a number below 2⁶⁴ (R141). -/
def root (n : Nat) : Nat := rootFrom 32 n 0

/-- The remainder of a signed number of seconds modulo 2³², taken into −2³¹ to 2³¹ − 1 (R42). -/
def secondsDifference (a b : Nat) : Int :=
  let d := (a % 4294967296 + 4294967296 - b % 4294967296) % 4294967296
  if d < 2147483648 then (d : Int) else (d : Int) - 4294967296

end Sys2Proof.Machine

namespace Sys2Proof

/-- The value of one component. -/
def Triple.get {α : Type} (t : Triple α) : Comp → α
  | .x => t.x
  | .y => t.y
  | .z => t.z

/-- The triple with one component replaced. -/
def Triple.set {α : Type} (t : Triple α) (c : Comp) (v : α) : Triple α :=
  match c with
  | .x => { t with x := v }
  | .y => { t with y := v }
  | .z => { t with z := v }

/-- The same value for each component. -/
def Triple.all {α : Type} (v : α) : Triple α := ⟨v, v, v⟩

/-- The values in the order X, Y, Z. -/
def Triple.toList {α : Type} (t : Triple α) : List α := [t.x, t.y, t.z]

/-- A function applied to each component. -/
def Triple.map {α β : Type} (f : α → β) (t : Triple α) : Triple β := ⟨f t.x, f t.y, f t.z⟩

/-- The number of a component (07, Terms). -/
def Comp.number : Comp → Nat
  | .x => 0
  | .y => 1
  | .z => 2

/-- The field converter of a component (06, 6.2). -/
def Comp.converter : Comp → Converter
  | .x => .fc0
  | .y => .fc1
  | .z => .fc2

end Sys2Proof
end

