-- ==== Sys2Proof/Machine/Blocks.lean ====
section
/-! DEFINITION. The types of what the node's ten blocks hold, and the value of each block after reset (the tables of
R15, R39, R51, R76, R103, R126, R145, R165, R178). -/

namespace Sys2Proof.Machine

/-! ## Settings (10.3) -/

/-- A station's role; the codes are those of R195. -/
inductive Role where
  | vector
  | scalar
  | timing
  | logger
  deriving DecidableEq, Repr

/-- One row of a correction table (R128). -/
structure Breakpoint where
  temperature : Int
  offset : Int
  scale : Int
  deriving DecidableEq, Repr

/-- The settings of one component: k, start steps, probe selection, correction table. -/
structure CompSettings where
  factor : Nat
  startSteps : Int
  probe : Nat
  table : List Breakpoint
  deriving DecidableEq, Repr

/-- The settings of one probe (R127). -/
structure ProbeSettings where
  origin : Int
  span : Nat
  deriving DecidableEq, Repr

/-- One byte for each of the five flag groups (R167, R195). -/
structure PerGroup (α : Type) where
  time : α
  line : α
  data : α
  window : α
  start : α
  deriving DecidableEq, Repr

/-- The settled settings (the table of 10.3), held once for the blocks that use them. -/
structure Settings where
  station : Nat
  role : Role
  period : Nat
  receiveDelay : Nat
  initialTrim : Int
  exclusion : Nat
  spreadLimit : Nat
  listen : StationSet
  partner : Option Nat
  deltaLimit : Nat
  minSamples : Nat
  comps : Triple CompSettings
  stepSize : Nat
  probes : List ProbeSettings
  settle : Nat
  compAffect : StationSet
  polarizeAffect : StationSet
  cycle : Nat
  polarize : Nat
  count : Nat
  bankLength : Nat
  statePeriod : Nat
  masks : PerGroup Byte
  deriving DecidableEq, Repr

/-! ## Node Clock (01) -/

/-- The timebase state (R9). -/
inductive Timebase where
  | free
  | referenced
  | agreed
  | holdover
  deriving DecidableEq, Repr

/-- The Node Clock (R1, R4, R8, R9). `slew` is the remaining slew R in su. -/
structure Clock where
  seconds : Nat
  nanoseconds : Nat
  remainder : Nat
  trim : Int
  slew : Int
  state : Timebase
  deriving DecidableEq, Repr

/-- A reading and the remaining slew at the same instant (R1). -/
structure Capture where
  reading : NodeTime
  slew : Int
  deriving DecidableEq, Repr

/-! ## Reference Input (03) -/

/-- A valid label: its seconds count and arrival time (R46). -/
structure Label where
  count : Nat
  arrival : NodeTime
  deriving DecidableEq, Repr

/-- The label input: waiting for a lead, or the characters taken and the end of the last one (R46). -/
inductive LabelInput where
  | waiting
  | assembling (chars : List Byte) (lastEnd : NodeTime)
  deriving DecidableEq, Repr

/-- The Reference Input (03, 3.1). `pinLow` is the label input's level at the last tick, and `charBegun` says that a
character's start bit has begun and its end has not come (R46; log entry 16). -/
structure RefInput where
  acqCount : Nat
  prevError : Option Int
  missCount : Nat
  lastPulse : Option NodeTime
  deadline : Option NodeTime
  label : Option Label
  mismatch : Option Int
  labelRx : LabelInput
  pinLow : Bool
  charBegun : Bool
  deriving DecidableEq, Repr

/-! ## Agreement Unit (02) -/

/-- A row's standing (R25). -/
inductive RowState where
  | empty
  | live
  | stale
  | excluded
  deriving DecidableEq, Repr

/-- A row of the Peer Clock Table, found by its station (R23). -/
structure Row where
  station : Nat
  state : RowState
  peer : Timebase
  offset : Int
  fresh : Bool
  age : Nat
  run : Nat
  excludedFor : Nat
  lastCapture : Option NodeTime
  deriving DecidableEq, Repr

/-- A tier (R27). -/
inductive Tier where
  | free
  | settled
  | referenced
  deriving DecidableEq, Repr

/-- The summary of the last round end (R32). -/
structure Summary where
  tier : Tier
  count : Nat
  spread : Int
  deriving DecidableEq, Repr

/-- The Agreement Unit. -/
structure Agreement where
  rows : List Row
  nextRound : NodeTime
  lastRound : Option NodeTime
  nextMark : NodeTime
  lastMark : Option NodeTime
  summary : Summary
  stepSum : Int
  roundCrossed : Bool
  deriving DecidableEq, Repr

/-! ## Window Unit (05) -/

/-- A window's class (R78). -/
inductive WinClass where
  | polarize
  | compStep
  deriving DecidableEq, Repr

/-- A window id: the requester's station and the sequence (R78). -/
structure WinId where
  station : Nat
  seq : Nat
  deriving DecidableEq, Repr

/-- An entry of the blanking list, or a held window (R98, R100). -/
structure Entry where
  id : WinId
  cls : WinClass
  start : NodeTime
  finish : NodeTime
  forced : Bool
  deriving DecidableEq, Repr

/-- The state of the own window record (R81). -/
inductive OwnState where
  | none
  | asking
  | waiting
  | granted
  | opened
  | deferred
  deriving DecidableEq, Repr

/-- The cause of the own window (R81, R82); void in NONE. -/
inductive Cause where
  | void
  | compStep (comps : Triple Bool)
  | polarize (cycleStart : NodeTime)
  deriving DecidableEq, Repr

/-- The own window record (R81). The four node times are void (none) where their state gives them no value. -/
structure OwnWindow where
  state : OwnState
  cause : Cause
  nextComps : Triple Bool
  attempts : Nat
  seq : Nat
  forced : Bool
  urgent : Bool
  responseEnd : Option NodeTime
  start : Option NodeTime
  finish : Option NodeTime
  waitEnd : Option NodeTime
  deriving DecidableEq, Repr

/-- A protected interval and its disturbed mark (R92). -/
structure Protected where
  start : NodeTime
  finish : NodeTime
  mark : Bool
  deriving DecidableEq, Repr

/-- The Window Unit. `waitHold` is the model's own: the wait end was set since the last tick (log entry 9). -/
structure WindowUnit where
  own : OwnWindow
  list : List Entry
  held : List Entry
  blankAllEnd : Option NodeTime
  ownProt : Option Protected
  counting : List Protected
  leadCap : Option NodeTime
  waitHold : Bool
  deriving DecidableEq, Repr

/-! ## Line Unit (04) -/

/-- The line state (R53). -/
inductive LineState where
  | silent
  | active
  | muted
  | stuck
  deriving DecidableEq, Repr

/-- The MARK slot or the STATE slot (R70): whether it holds a frame, that frame's failures, whether a next waits. -/
structure Slot where
  full : Bool
  failures : Nat
  waiting : Bool
  deriving DecidableEq, Repr

/-- A frame of the window queue with what the Window Unit keeps with it (R71). A DEFER keeps the window of the ASK it
refuses (R97), that ASK's lead tick (R72), its conflict end, whether the guard is added to it (R95, R96), and the mark of
R97; a WITHDRAW keeps its window's start (R73). -/
inductive WinFrame where
  | ask (id : WinId) (cls : WinClass) (duration : Nat) (affect : StationSet)
  | defer (window : Entry) (leadTick : Nat) (conflictEnd : NodeTime) (guarded : Bool) (marked : Bool)
  | withdraw (id : WinId) (start : NodeTime)
  deriving DecidableEq, Repr

/-- A frame in the window queue: its failures, and whether it is in an attempt. -/
structure Queued where
  frame : WinFrame
  failures : Nat
  inAttempt : Bool
  deriving DecidableEq, Repr

/-- The character the receiver is taking (R52): ticks since its falling edge, the data bits taken (first bit in bit 0),
whether its stop bit was read active. -/
structure CharRx where
  age : Nat
  bits : Byte
  stopLow : Bool
  deriving DecidableEq, Repr

/-- The reception in progress (R60, R61, R75): the provisional capture, the lead tick, whether the lead edge was that of
an attempt of this node, the characters held, and whether a framing error has been read. -/
structure Reception where
  capture : Capture
  leadTick : Nat
  own : Bool
  chars : List Byte
  framing : Bool
  deriving DecidableEq, Repr

/-- What an attempt sends (R64). An orphan reply is the reply of a scan that a new RECALL has ended (R159). -/
inductive Item where
  | window
  | mark
  | state
  | bank (second : Bool)
  | reply (orphan : Bool)
  deriving DecidableEq, Repr

/-- The attempt in progress (R63, R64): the frame's kind and payload length, the payload bytes fixed so far, the ticks
since the lead, the lead capture, and the forced and delay items an ASK carries (R84). -/
structure Attempt where
  item : Item
  kind : Byte
  length : Nat
  payload : List Byte
  ticks : Nat
  lead : Option Capture
  forced : Bool
  delay : Nat
  deriving DecidableEq, Repr

/-- The Line Unit (R53 to R76). `readyFrom` is the tick until which a truncation keeps the receiver HUNTING (R61; log entry
14). -/
structure LineUnit where
  state : LineState
  roundCount : Nat
  ret : Option (LineState × Nat)
  stuckTimer : Nat
  idleRun : Nat
  level : Bool
  charRx : Option CharRx
  ready : Bool
  readyFrom : Nat
  reception : Option Reception
  markSlot : Slot
  stateSlot : Slot
  queue : List Queued
  bankFailures : Nat
  replyFailures : Nat
  attempt : Option Attempt
  jam : Option Nat
  backoff : Option Nat
  generator : Nat
  deriving DecidableEq, Repr

/-! ## Acquisition Unit (06) -/

/-- A pending direction (R110). -/
inductive Dir where
  | up
  | down
  deriving DecidableEq, Repr

/-- A probe's status (R116). -/
inductive ProbeStatus where
  | void
  | good
  | failed
  deriving DecidableEq, Repr

/-- A probe (R116). -/
structure Probe where
  status : ProbeStatus
  count : Option Nat
  lastGood : Option NodeTime
  deriving DecidableEq, Repr

/-- One component's accumulation (R109). -/
structure Accum where
  collected : Nat
  blanked : Nat
  missing : Nat
  saturated : Nat
  valid : Nat
  sum : Int
  deriving DecidableEq, Repr

/-- What a field conversion's sample serves: a second, none (R124 stage 4), or an abandoned second (R124 stage 1). -/
inductive Serves where
  | second (s : Nat)
  | uncollected
  | abandoned
  deriving DecidableEq, Repr

/-- A sample under way (R107, R108): what it serves, the steps at the trigger instant, the Window Unit's answer for the
instant (R101), and whether the compensation changed while its conversion was outstanding (R112). -/
structure Sample where
  serves : Serves
  steps : Int
  blanked : Bool
  blankAll : Bool
  byCompStep : Bool
  changed : Bool
  deriving DecidableEq, Repr

/-- What a conversion yields. -/
inductive Job where
  | field (c : Comp) (sample : Sample)
  | probe (j : Nat)
  | counter
  deriving DecidableEq, Repr

/-- A conversion at a converter (R106). `id` numbers it (log entry 10). The deadline and the next poll are ticks. -/
structure Conversion where
  id : Nat
  job : Job
  outstanding : Bool
  deadline : Nat
  nextPoll : Option Nat
  readAsked : Bool
  deriving DecidableEq, Repr

/-- The conversion of each converter, if one is under way. -/
structure Conversions where
  fc0 : Option Conversion
  fc1 : Option Conversion
  fc2 : Option Conversion
  tc : Option Conversion
  sc : Option Conversion
  deriving DecidableEq, Repr

/-- The three transfers (06, 6.2). -/
inductive TransferKind where
  | start
  | poll
  | read
  deriving DecidableEq, Repr

/-- A transfer requested of the port, for the conversion numbered `id` (R105); `probe` is the number that a probe start
carries, and 0 in every other transfer (R199). -/
structure Transfer where
  conv : Converter
  kind : TransferKind
  probe : Nat
  id : Nat
  deriving DecidableEq, Repr

/-- The second being gathered and its accumulations (R109). -/
structure Gathering where
  second : Nat
  acc : Triple Accum
  deriving DecidableEq, Repr

/-- The stage of the measuring cycle (R119): COUNTING holds the gate open time and the count end. -/
inductive CycleStage where
  | polarizing
  | counting (openTime countEnd : NodeTime)
  deriving DecidableEq, Repr

/-- The measuring cycle (R119). -/
structure Measuring where
  windowEnd : NodeTime
  stage : CycleStage
  deriving DecidableEq, Repr

/-- The reading cycle (R119). -/
structure Reading where
  openTime : NodeTime
  mark : Bool
  deriving DecidableEq, Repr

/-- The last own COMP_STEP window (R114). -/
structure CompWindow where
  start : NodeTime
  finish : NodeTime
  mark : Bool
  isOpen : Bool
  deriving DecidableEq, Repr

/-- The Acquisition Unit. `serial` and `scanHold` are the model's own (log entries 10 and 9). -/
structure Acquisition where
  steps : Triple Int
  pendingDir : Triple (Option Dir)
  gathering : Option Gathering
  lastClosed : Option Nat
  nextTrigger : NodeTime
  nextScan : NodeTime
  stepped : Bool
  ownWin : Option CompWindow
  probes : List Probe
  asked : Option NodeTime
  measuring : Option Measuring
  reading : Option Reading
  nextAsk : NodeTime
  lastAsk : Option NodeTime
  lastTag : Option NodeTime
  polarizeOut : Bool
  countOut : Bool
  conversions : Conversions
  port : Option (Transfer × Nat)
  portQueue : List Transfer
  serial : Nat
  scanHold : Bool
  deriving DecidableEq, Repr

/-! ## Correction Unit (07) -/

/-- The Correction Unit: the recent-F buffer, oldest first (R140), and the run count (R144). -/
structure Correction where
  recentF : List (Nat × Nat)
  runCount : Nat
  deriving DecidableEq, Repr

/-! ## Record Ring (08) -/

/-- A reset's cause (R182). -/
inductive ResetCause where
  | powerOn
  | external
  deriving DecidableEq, Repr

/-- A note's code with its argument (R149). -/
inductive Note where
  | reset (cause : ResetCause)
  | step (c : Int)
  | timebase (previous : Timebase)
  | comp (component : Comp) (steps : Int)
  deriving DecidableEq, Repr

/-- The values of an OWN or PEER record (R149). -/
structure Values where
  value : Triple (Option Int)
  valid : Triple Nat
  temperature : Option Int
  deriving DecidableEq, Repr

/-- A record's kind with its further contents (R148, R149). A PEER record keeps its 32 bytes as well, as received but for
the kind (R196). -/
inductive Body where
  | own (v : Values)
  | peer (v : Values) (received : List Byte)
  | check (scalarF vectorF delta : Int)
  | note (n : Note)
  deriving DecidableEq, Repr

/-- The record flags, in the order of their bits (R148, R196). -/
structure RecordFlags where
  stepped : Bool
  blanked : Bool
  partly : Bool
  saturated : Bool
  tableEdge : Bool
  tempHeld : Bool
  tempStale : Bool
  noTemp : Bool
  disturbed : Bool
  skipped : Bool
  missing : Bool
  deriving DecidableEq, Repr

/-- A record (R148). -/
structure Record where
  station : Nat
  role : Role
  seconds : Nat
  millis : Nat
  timebase : Timebase
  flags : RecordFlags
  body : Body
  deriving DecidableEq, Repr

/-- A bank's state (R155). -/
inductive BankState where
  | free
  | filling
  | pending
  | sending
  deriving DecidableEq, Repr

/-- A block bank (R155). -/
structure Bank where
  state : BankState
  records : List Record
  deriving DecidableEq, Repr

/-- A recall reply: its markers besides recalled, and its records (R161). -/
structure Reply where
  final : Bool
  notHeld : Bool
  gap : Bool
  records : List Record
  deriving DecidableEq, Repr

/-- A scan (R160). The next and the end record are named by their place in the order of all commits (log entry 11). -/
structure Scan where
  first : Nat
  count : Nat
  nextRecord : Option Nat
  endRecord : Option Nat
  collected : Nat
  notHeld : Bool
  gap : Bool
  endRetried : Bool
  reply : Option Reply
  deriving DecidableEq, Repr

/-- The Record Ring. `base` is the model's own: the number of records that overwrites have removed (log entry 11). -/
structure RecordRing where
  records : List Record
  base : Nat
  bank0 : Bank
  bank1 : Bank
  scan : Option Scan
  deriving DecidableEq, Repr

/-! ## Flag Unit (09) and Start Loader (10) -/

/-- The Flag Unit. The alarm output is low while `release` holds the tick of its release (R170); the STATE period timer
is held as the tick of its expiry, none while stopped (R175, R178). `expiryWaits` says that the period had expired when a
hand-over restarted the timer, and that expiry is still to be taken (R175; log entry 31). -/
structure FlagUnit where
  flags : PerGroup Byte
  closed : PerGroup Bool
  release : Option Nat
  stateTimer : Option Nat
  expiryWaits : Bool
  deriving DecidableEq, Repr

/-- What stage 4 settles: the settings, and whether a field was clamped or a table cut (R188 to R191). -/
structure Settled where
  cfg : Settings
  clamped : Bool
  deriving DecidableEq, Repr

/-- The stages 3 to 8 of the start sequence (R184), with what a stage takes from the one before it: the load the settled
settings, the flags whether anything was clamped or cut. -/
inductive Stage where
  | verdict
  | settle
  | load (settled : Settled)
  | flags (clamped : Bool)
  | note
  | clock
  deriving DecidableEq, Repr

/-- Where the node stands in its start (R184): held, at stage 2 with the image read in progress, in the start sequence
with the stage to be taken next, or started. -/
inductive Phase where
  | held
  | readingImage
  | starting (next : Stage)
  | running
  deriving DecidableEq, Repr

/-- The verdict on the image (R187). -/
inductive Verdict where
  | valid
  | defaults
  deriving DecidableEq, Repr

/-- The Start Loader. `image` holds the bytes read until stage 4 ends (R186). -/
structure Loader where
  phase : Phase
  powerOn : Bool
  ext : Bool
  goodTicks : Nat
  lowCount : Nat
  pinHigh : Bool
  pendingCause : ResetCause
  lastCause : ResetCause
  begun : Bool
  straps : Straps
  verdict : Verdict
  readFrom : Nat
  image : List Byte
  deriving DecidableEq, Repr

/-! ## The values after reset -/

/-- R15. -/
def Clock.afterReset (cfg : Settings) : Clock :=
  { seconds := 0, nanoseconds := 0, remainder := 0, trim := cfg.initialTrim, slew := 0, state := .free }

/-- R51. -/
def RefInput.afterReset : RefInput :=
  { acqCount := 0, prevError := none, missCount := 0, lastPulse := none, deadline := none, label := none,
    mismatch := none, labelRx := .waiting, pinLow := false, charBegun := false }

/-- An EMPTY row (R23). -/
def Row.emptyOf (station : Nat) : Row :=
  { station := station, state := .empty, peer := .free, offset := 0, fresh := false, age := 0, run := 0,
    excludedFor := 0, lastCapture := none }

/-- The stations of the table: 0 to 15 but the node's own (R23). -/
def otherStations (own : Nat) : List Nat := (List.range 16).filter fun k => decide (k ≠ own)

/-- P in nanoseconds. -/
def Settings.periodNs (cfg : Settings) : Nat := cfg.period * Config.second

/-- The MARK instants' place in the round, station × P/16 seconds (R19). -/
def Settings.markOffset (cfg : Settings) : Nat := cfg.station * (cfg.period * 62500000)

/-- R39. -/
def Agreement.afterReset (cfg : Settings) : Agreement :=
  { rows := (otherStations cfg.station).map Row.emptyOf, nextRound := cfg.periodNs, lastRound := none,
    nextMark := if cfg.station = 0 then cfg.periodNs else cfg.markOffset, lastMark := none,
    summary := { tier := .free, count := 0, spread := 0 }, stepSum := 0, roundCrossed := false }

/-- An empty slot (R76). -/
def Slot.empty : Slot := { full := false, failures := 0, waiting := false }

/-- R76, R68. -/
def LineUnit.afterReset (cfg : Settings) : LineUnit :=
  { state := .silent, roundCount := 0, ret := none, stuckTimer := 0, idleRun := 0, level := false, charRx := none,
    ready := false, readyFrom := 0, reception := none, markSlot := Slot.empty, stateSlot := Slot.empty, queue := [],
    bankFailures := 0, replyFailures := 0, attempt := none, jam := none, backoff := none,
    generator := cfg.station * 4096 + 1 }

/-- The record in NONE, its void fields void (R81, R103). -/
def OwnWindow.afterReset : OwnWindow :=
  { state := .none, cause := .void, nextComps := Triple.all false, attempts := 0, seq := 0, forced := false,
    urgent := false, responseEnd := none, start := none, finish := none, waitEnd := none }

/-- R103. -/
def WindowUnit.afterReset : WindowUnit :=
  { own := OwnWindow.afterReset, list := [], held := [], blankAllEnd := none, ownProt := none, counting := [],
    leadCap := none, waitHold := false }

/-- No instant collected (R109). -/
def Accum.empty : Accum := { collected := 0, blanked := 0, missing := 0, saturated := 0, valid := 0, sum := 0 }

/-- R126. The compensation steps are what the outputs drive (R183): given, since a power-on and an external reset
differ. -/
def Acquisition.afterReset (cfg : Settings) (steps : Triple Int) : Acquisition :=
  { steps := steps, pendingDir := Triple.all none, gathering := none, lastClosed := none, nextTrigger := 50000000,
    nextScan := 125000000, stepped := false, ownWin := none,
    probes := List.replicate 4 { status := .void, count := none, lastGood := none },
    asked := none, measuring := none, reading := none, nextAsk := plus (cfg.cycle * Config.second) (-500000000),
    lastAsk := none, lastTag := none, polarizeOut := false, countOut := false,
    conversions := { fc0 := none, fc1 := none, fc2 := none, tc := none, sc := none }, port := none, portQueue := [],
    serial := 0, scanHold := false }

/-- R145. -/
def Correction.afterReset : Correction := { recentF := [], runCount := 0 }

/-- A FREE bank (R165). -/
def Bank.empty : Bank := { state := .free, records := [] }

/-- R165: what a power-on leaves of the Record Ring. -/
def RecordRing.afterPowerOn : RecordRing :=
  { records := [], base := 0, bank0 := Bank.empty, bank1 := Bank.empty, scan := none }

/-- R166: what an external reset leaves of the Record Ring. -/
def RecordRing.afterExternal (r : RecordRing) : RecordRing :=
  { r with bank0 := Bank.empty, bank1 := Bank.empty, scan := none }

/-- The same value for every group. -/
def PerGroup.all {α : Type} (v : α) : PerGroup α := { time := v, line := v, data := v, window := v, start := v }

/-- R178. -/
def FlagUnit.afterReset : FlagUnit :=
  { flags := PerGroup.all 0#8, closed := PerGroup.all false, release := none, stateTimer := none,
    expiryWaits := false }

/-- Every flag of each group, by the bits of R195. -/
def allFlags : PerGroup Byte := { time := 0x3F#8, line := 0x1F#8, data := 0x7F#8, window := 0x0F#8, start := 0x0F#8 }

/-- The defaults of the table of 10.3 for a component (R191). -/
def CompSettings.default : CompSettings := { factor := 1000, startSteps := 0, probe := 0, table := [] }

/-- The defaults of 10.3 with station 0 and role VECTOR: what cfg holds until stage 5 loads it (log entry 4). -/
def Settings.beforeLoad : Settings :=
  { station := 0, role := .vector, period := 8, receiveDelay := 300, initialTrim := 0, exclusion := 1000000,
    spreadLimit := 1000000, listen := 0#16, partner := none, deltaLimit := 5000, minSamples := 5,
    comps := Triple.all CompSettings.default, stepSize := 2000000,
    probes := List.replicate 4 { origin := -5000, span := 12000 }, settle := 200, compAffect := 1#16,
    polarizeAffect := 0#16, cycle := 10, polarize := 500, count := 500, bankLength := 4, statePeriod := 60,
    masks := allFlags }

/-- The Start Loader as a power-on reset begins (R180 to R182). -/
def Loader.afterPowerOn : Loader :=
  { phase := .held, powerOn := true, ext := false, goodTicks := 0, lowCount := 0, pinHigh := true,
    pendingCause := .powerOn, lastCause := .powerOn, begun := false,
    straps := { station := 0, role := 0, image := false }, verdict := .defaults, readFrom := 0,
    image := [] }

end Sys2Proof.Machine
end

