-- ==== Sys2Proof/Machine/State.lean ====
section
/-! DEFINITION. The state of the node: the ten blocks of 00 (Blocks), the settled settings, and the queue of commands.
Faults and refusals: the spec names no event that stops the node, so no meaning ends in one. -/

namespace Sys2Proof.Machine

/-- Why the node stops. The spec names no event that stops it: an event is taken, ignored whole, or answered by a flag.
So there is no fault (closed, with no constructor). -/
inductive Fault where
  deriving DecidableEq, Repr

/-- Why a command has no meaning. -/
inductive Refusal where
  /-- An arm of exec that has no meaning yet. Raised by no arm of this model; safe. -/
  | notModelled (mnemonic : String)
  deriving DecidableEq, Repr

/-- Everything the spec gives the node, and the waiting commands, first in first out. `tick` counts oscillator ticks (the
model's own, log entry 8). -/
structure State where
  pending : List Instr
  tick : Nat
  clock : Clock
  ref : RefInput
  agr : Agreement
  line : LineUnit
  win : WindowUnit
  acq : Acquisition
  corr : Correction
  ring : RecordRing
  flag : FlagUnit
  loader : Loader
  cfg : Settings
  deriving DecidableEq, Repr

/-- The node as a power-on reset begins: held, every block in its state after reset (R15, R39, R51, R76, R103, R126,
R145, R165, R178, R180, R182). -/
def State.reset : State :=
  { pending := [], tick := 0,
    clock := Clock.afterReset Settings.beforeLoad,
    ref := RefInput.afterReset,
    agr := Agreement.afterReset Settings.beforeLoad,
    line := LineUnit.afterReset Settings.beforeLoad,
    win := WindowUnit.afterReset,
    acq := Acquisition.afterReset Settings.beforeLoad (Triple.all 0),
    corr := Correction.afterReset,
    ring := RecordRing.afterPowerOn,
    flag := FlagUnit.afterReset,
    loader := Loader.afterPowerOn,
    cfg := Settings.beforeLoad }

/-! The updates of one block each; Laws/State.lean has one lemma per field per update. -/

def State.withPending (s : State) (v : List Instr) : State := { s with pending := v }
def State.withTick (s : State) (v : Nat) : State := { s with tick := v }
def State.withClock (s : State) (v : Clock) : State := { s with clock := v }
def State.withRef (s : State) (v : RefInput) : State := { s with ref := v }
def State.withAgr (s : State) (v : Agreement) : State := { s with agr := v }
def State.withLine (s : State) (v : LineUnit) : State := { s with line := v }
def State.withWin (s : State) (v : WindowUnit) : State := { s with win := v }
def State.withAcq (s : State) (v : Acquisition) : State := { s with acq := v }
def State.withCorr (s : State) (v : Correction) : State := { s with corr := v }
def State.withRing (s : State) (v : RecordRing) : State := { s with ring := v }
def State.withFlag (s : State) (v : FlagUnit) : State := { s with flag := v }
def State.withLoader (s : State) (v : Loader) : State := { s with loader := v }
def State.withCfg (s : State) (v : Settings) : State := { s with cfg := v }

end Sys2Proof.Machine
end

