-- ==== Sys2Proof/Machine/Operands.lean ====
section
/-! DEFINITION. Bytes and layouts: byte order (R194), the check (R59), the line frames (R58, R195), the ring record
(R196), the label message (R197), the image (R198) and the results of the converter port (R199). -/

namespace Sys2Proof.Machine

/-! ## Numbers in bytes (R194) -/

/-- The n bytes of a number, least significant first, in two's complement (R194). -/
def leBytes : Nat → Int → List Byte
  | 0, _ => []
  | n + 1, v => BitVec.ofInt 8 v :: leBytes n (v / 256)

/-- The number in bytes, least significant first (R194). -/
def leNat : List Byte → Nat
  | [] => 0
  | b :: bs => b.toNat + 256 * leNat bs

/-- An n-byte number taken as two's complement (R194). -/
def signedOf (n v : Nat) : Int := if 2 * v < 256 ^ n then (v : Int) else (v : Int) - (256 ^ n : Nat)

/-- The n bytes from place k. -/
def bytesAt (k n : Nat) (bs : List Byte) : List Byte := (bs.drop k).take n

/-- The unsigned number in the n bytes from place k. -/
def natAt (k n : Nat) (bs : List Byte) : Nat := leNat (bytesAt k n bs)

/-- The signed number in the n bytes from place k. -/
def intAt (k n : Nat) (bs : List Byte) : Int := signedOf n (natAt k n bs)

/-- The bits lo to lo + n − 1 of a number. -/
def bitsOf (lo n v : Nat) : Nat := v / 2 ^ lo % 2 ^ n

/-- Whether bit k of a number is set. -/
def bitSet (k v : Nat) : Bool := decide (bitsOf k 1 v = 1)

/-- A bit's weight, 0 when it is clear. -/
def weight (k : Nat) (b : Bool) : Nat := if b then 2 ^ k else 0

/-- A station set's membership (R194). -/
def StationSet.has (set : StationSet) (station : Nat) : Bool := set.getLsbD station

/-- A station set with a station added. -/
def StationSet.add (set : StationSet) (station : Nat) : StationSet := set ||| (1#16 <<< station)

/-- A station set with a station taken out. -/
def StationSet.remove (set : StationSet) (station : Nat) : StationSet := set &&& ~~~(1#16 <<< station)

/-! ## The check (R59) -/

/-- One bit into the check's register (R59). -/
def crcBit (r : BitVec 16) (b : Bool) : BitVec 16 :=
  if (r.getLsbD 0 != b) then (r >>> 1) ^^^ 0x8408#16 else r >>> 1

/-- One byte into the check's register, least significant bit first (R59). -/
def crcByte (r : BitVec 16) (b : Byte) : BitVec 16 := (List.range 8).foldl (fun r i => crcBit r (b.getLsbD i)) r

/-- The check over bytes, its register set to all ones (R59). -/
def crc (bs : List Byte) : BitVec 16 := bs.foldl crcByte 0xFFFF#16

/-! ## Codes -/

/-- R195. -/
def Role.code : Role → Nat
  | .vector => 0
  | .scalar => 1
  | .timing => 2
  | .logger => 3

/-- R195. -/
def Role.ofCode (c : Nat) : Role :=
  match c % 4 with
  | 0 => .vector
  | 1 => .scalar
  | 2 => .timing
  | _ => .logger

/-- R9. -/
def Timebase.code : Timebase → Nat
  | .free => 0
  | .referenced => 1
  | .agreed => 2
  | .holdover => 3

/-- R9: none for a code that names no state. -/
def Timebase.ofCode : Nat → Option Timebase
  | 0 => some .free
  | 1 => some .referenced
  | 2 => some .agreed
  | 3 => some .holdover
  | _ => none

/-- R195. -/
def LineState.code : LineState → Nat
  | .silent => 0
  | .active => 1
  | .muted => 2
  | .stuck => 3

/-- R195. -/
def Tier.code : Tier → Nat
  | .free => 1
  | .settled => 2
  | .referenced => 3

/-- R195, for a row that is not EMPTY. -/
def RowState.code : RowState → Nat
  | .empty => 0
  | .live => 1
  | .stale => 2
  | .excluded => 3

/-- R195. -/
def WinClass.code : WinClass → Nat
  | .polarize => 1
  | .compStep => 2

/-- R195: none for a code that is neither class. -/
def WinClass.ofCode : Nat → Option WinClass
  | 1 => some .polarize
  | 2 => some .compStep
  | _ => none

/-- R195, R196. -/
def ResetCause.code : ResetCause → Nat
  | .powerOn => 0
  | .external => 1

/-- The source byte: station in bits 0 to 3, role in bits 4 and 5 (R195). -/
def sourceByte (station : Nat) (role : Role) : Byte := BitVec.ofNat 8 (station % 16 + 16 * role.code)

/-- The station of a source byte. -/
def sourceStation (b : Byte) : Nat := bitsOf 0 4 b.toNat

/-- The role of a source byte. -/
def sourceRole (b : Byte) : Role := Role.ofCode (bitsOf 4 2 b.toNat)

/-- The window id byte: station in bits 0 to 3, sequence in bits 4 to 7 (R195). -/
def WinId.toByte (i : WinId) : Byte := BitVec.ofNat 8 (i.station % 16 + 16 * (i.seq % 16))

/-- The window id of a byte (R195). -/
def WinId.ofByte (b : Byte) : WinId := { station := bitsOf 0 4 b.toNat, seq := bitsOf 4 4 b.toNat }

/-! ## Line frames (R58, R195) -/

/-- The lead byte of a frame (R58) and of a label message (R197). -/
def leadByte : Byte := 0xC5#8
def labelLead : Byte := 0xA3#8

/-- The codes of the kinds (R195). -/
def markKind : Byte := 0x01#8
def blockKind : Byte := 0x02#8
def stateKind : Byte := 0x03#8
def askKind : Byte := 0x04#8
def deferKind : Byte := 0x05#8
def withdrawKind : Byte := 0x06#8
def recallKind : Byte := 0x07#8
def clearKind : Byte := 0x08#8

/-- The kind code is one of the eight (R58). -/
def knownKind (k : Byte) : Bool := decide (1 ≤ k.toNat) && decide (k.toNat ≤ 8)

/-- A received frame: its kind, source and payload (R58). -/
structure Frame where
  kind : Byte
  station : Nat
  role : Role
  payload : List Byte
  deriving DecidableEq, Repr

/-- The length byte of the characters taken. -/
def lengthOf (chars : List Byte) : Nat := natAt 3 1 chars

/-- The last character of the check has been taken (R58, R61). -/
def frameComplete (chars : List Byte) : Bool :=
  decide (4 ≤ chars.length) && decide (lengthOf chars + 6 ≤ chars.length)

/-- The check computed over kind, source, length and payload equals the check received (R59). -/
def checkPasses (chars : List Byte) : Bool :=
  decide ((crc (bytesAt 1 (lengthOf chars + 3) chars)).toNat = natAt (lengthOf chars + 4) 2 chars)

/-- The frame in the characters of a complete reception (R58, R195). -/
def frameOf (chars : List Byte) : Frame :=
  let src := chars.getD 2 0
  { kind := chars.getD 1 0, station := sourceStation src, role := sourceRole src,
    payload := bytesAt 4 (lengthOf chars) chars }

/-- The characters of a frame of this node whose payload is fixed as far as it goes: the lead, the header, the payload,
and, once the payload is whole, the check (R58, R59). -/
def sentChars (station : Nat) (role : Role) (kind : Byte) (length : Nat) (payload : List Byte) : List Byte :=
  let body := [kind, sourceByte station role, BitVec.ofNat 8 length] ++ payload
  leadByte :: body ++ (if payload.length = length then leBytes 2 (crc body).toNat else [])

/-- The payload of a BLOCK (R195). -/
def blockMarkers (recalled final notHeld gap : Bool) : Byte :=
  BitVec.ofNat 8 (weight 0 recalled + weight 1 final + weight 2 notHeld + weight 3 gap)

/-! ## The ring record (R196) -/

/-- R196. -/
def RecordFlags.toNat (f : RecordFlags) : Nat :=
  weight 0 f.stepped + weight 1 f.blanked + weight 2 f.partly + weight 3 f.saturated + weight 4 f.tableEdge +
    weight 5 f.tempHeld + weight 6 f.tempStale + weight 7 f.noTemp + weight 8 f.disturbed + weight 9 f.skipped +
    weight 10 f.missing

/-- R196. -/
def RecordFlags.ofNat (v : Nat) : RecordFlags :=
  { stepped := bitSet 0 v, blanked := bitSet 1 v, partly := bitSet 2 v, saturated := bitSet 3 v,
    tableEdge := bitSet 4 v, tempHeld := bitSet 5 v, tempStale := bitSet 6 v, noTemp := bitSet 7 v,
    disturbed := bitSet 8 v, skipped := bitSet 9 v, missing := bitSet 10 v }

/-- No record flag (R148: CHECK and NOTE records carry none). -/
def RecordFlags.noFlags : RecordFlags := RecordFlags.ofNat 0

/-- The absent codes of a record value and of a temperature (R194). -/
def absentValue : Int := -2147483648
def absentTemperature : Int := -32768

/-- A value, or its absent code (R194). -/
def valueBytes (v : Option Int) : List Byte := leBytes 4 (v.getD absentValue)

/-- Bytes 10 to 31 of a record (R196). -/
def Body.bytes : Body → List Byte
  | .own v | .peer v _ =>
    valueBytes v.value.x ++ valueBytes v.value.y ++ valueBytes v.value.z ++
      leBytes 2 (v.valid.x % 16 + 16 * (v.valid.y % 16) + 256 * (v.valid.z % 16) : Nat) ++
      leBytes 2 (v.temperature.getD absentTemperature) ++ leBytes 6 0
  | .check f g d => leBytes 4 f ++ leBytes 4 g ++ leBytes 4 d ++ leBytes 10 0
  | .note (.reset c) => [0#8, 0#8] ++ leBytes 8 c.code ++ leBytes 12 0
  | .note (.step c) => [1#8, 0#8] ++ leBytes 8 c ++ leBytes 12 0
  | .note (.timebase p) => [2#8, 0#8] ++ leBytes 8 p.code ++ leBytes 12 0
  | .note (.comp c n) => [3#8, BitVec.ofNat 8 c.number] ++ leBytes 8 n ++ leBytes 12 0

/-- The code of a record's kind (R196). -/
def Body.kindCode : Body → Nat
  | .own _ => 0
  | .peer _ _ => 1
  | .check _ _ _ => 2
  | .note _ => 3

/-- The 32 bytes of a record whose bytes the node writes (R196). -/
def Record.written (r : Record) : List Byte :=
  [BitVec.ofNat 8 (r.body.kindCode + 16 * r.timebase.code), sourceByte r.station r.role] ++ leBytes 4 r.seconds ++
    leBytes 2 r.millis ++ leBytes 2 r.flags.toNat ++ r.body.bytes

/-- The 32 bytes of a record (R196); a PEER record's are those received, with its kind. -/
def Record.bytes (r : Record) : List Byte :=
  match r.body with
  | .peer _ received => received
  | .own _ | .check _ _ _ | .note _ => r.written

/-- The received bytes of a record with the kind made PEER (R196). -/
def asPeer : List Byte → List Byte
  | [] => []
  | b :: bs => (b &&& 0xF0#8 ||| 0x01#8) :: bs

/-- A field value read from a record: absent by its code (R194). -/
def optionalAt (k n : Nat) (absent : Int) (bs : List Byte) : Option Int :=
  if intAt k n bs = absent then none else some (intAt k n bs)

/-- The tests of R153 on a value and its valid count. -/
def valueAdmitted (v : Option Int) (n : Nat) : Bool :=
  decide (n ≤ 10) &&
    match v with
    | none => true
    | some p => decide (n ≠ 0) && decide (p.natAbs ≤ Config.fieldLimit)

/-- The test of R153 on a temperature, by its range of R149. -/
def temperatureAdmitted (t : Option Int) : Bool :=
  match t with
  | none => true
  | some v => decide (-5000 ≤ v) && decide (v ≤ 7000)

/-- The PEER record of 32 staged bytes from a frame of the given source, or none where R153 discards it. -/
def peerRecord (station : Nat) (role : Role) (bs : List Byte) : Option Record :=
  let counts := natAt 22 2 bs
  let v : Values :=
    { value := { x := optionalAt 10 4 absentValue bs, y := optionalAt 14 4 absentValue bs,
                 z := optionalAt 18 4 absentValue bs },
      valid := { x := bitsOf 0 4 counts, y := bitsOf 4 4 counts, z := bitsOf 8 4 counts },
      temperature := optionalAt 24 2 absentTemperature bs }
  match Timebase.ofCode (bitsOf 4 4 (natAt 0 1 bs)) with
  | none => none
  | some tb =>
    if bitsOf 0 4 (natAt 0 1 bs) = 0 ∧ sourceStation (bs.getD 1 0) = station ∧ sourceRole (bs.getD 1 0) = role ∧
        natAt 6 2 bs ≤ 999 ∧ valueAdmitted v.value.x v.valid.x ∧ valueAdmitted v.value.y v.valid.y ∧
        valueAdmitted v.value.z v.valid.z ∧ temperatureAdmitted v.temperature then
      some { station := station, role := role, seconds := natAt 2 4 bs, millis := natAt 6 2 bs, timebase := tb,
             flags := RecordFlags.ofNat (natAt 8 2 bs), body := .peer v (asPeer bs) }
    else none

/-- The records of a BLOCK payload, in the order of the frame (R195). -/
def blockRecords (payload : List Byte) : List (List Byte) :=
  (List.range ((payload.length - 1) / 32)).map fun i => bytesAt (1 + 32 * i) 32 payload

/-- The payload length is that of a BLOCK of 1 to 6 records (R194). -/
def blockLength (n : Nat) : Bool := decide (n ∈ [33, 65, 97, 129, 161, 193])

/-! ## Converter results (R199) -/

/-- The port clock SCK after so many of a transfer's edges: it idles low (R199). -/
def sckAfter (edges : Nat) : Bool := decide (edges % 2 = 1)

/-- Edge k of the port clock in a transfer, counted from 0, is a rising one (R199). -/
def risingEdge (k : Nat) : Bool := !sckAfter k && sckAfter (k + 1)

/-- The bits that the node samples: of the levels of the data input SDI at the clock's edges from edge k on, those at the
rising edges (R199). -/
def sampledFrom : Nat → List Bool → List Bool
  | _, [] => []
  | k, l :: ls => if risingEdge k then l :: sampledFrom (k + 1) ls else sampledFrom (k + 1) ls

/-- The byte in the first eight bits taken, most significant first; a bit that the device does not give is the data
input's pulled-up level (R186, R199). -/
def takenByte (bits : List Bool) : Byte :=
  BitVec.ofNat 8 ((List.range 8).foldl (fun v i => 2 * v + weight 0 (bits.getD i true)) 0)

/-- The first n bytes of the bits taken. -/
def bytesOfBits : Nat → List Bool → List Byte
  | 0, _ => []
  | n + 1, bits => takenByte bits :: bytesOfBits n (bits.drop 8)

/-- The first n bytes that the node takes, from the levels of the data input at the edges of the port clock, the first
edge rising from idle (R199). -/
def takenBytes (n : Nat) (levels : List Bool) : List Byte := bytesOfBits n (sampledFrom 0 levels)

/-- The number in bytes, most significant first (R194, R199). -/
def beNat (bs : List Byte) : Nat := leNat bs.reverse

/-- A field count, 24-bit two's complement (R199). -/
def fieldCount (levels : List Bool) : Int := signedOf 3 (beNat (takenBytes 3 levels))

/-- The status of a poll reports a result ready: bit 0 is set (R199). -/
def statusReady (levels : List Bool) : Bool := bitSet 0 (beNat (takenBytes 1 levels))

/-- The number of bytes of a transfer, sent and taken alike (R199). -/
def transferBytes (c : Converter) : TransferKind → Nat
  | .start => 1
  | .poll => 2
  | .read =>
    match c with
    | .fc0 | .fc1 | .fc2 => 4
    | .tc => 3
    | .sc => 5

/-- The bytes the node sends in a transfer: the command, and a dummy for each byte taken after it (R199). The dummies
of a read are taken as those of a poll, 0x00 (log entry 32). -/
def Transfer.sends (t : Transfer) : List Byte :=
  match t.kind with
  | .start => [0x10#8 + BitVec.ofNat 8 t.probe]
  | .poll => [0x20#8, 0x00#8]
  | .read => 0x30#8 :: List.replicate (transferBytes t.conv .read - 1) 0x00#8

/-- The bytes the node sends before it takes the image's: the read command and address 0 (R199). -/
def imageCommand : List Byte := [0x03#8, 0x00#8, 0x00#8]

/-- The bits of bytes in the order the port carries them, most significant first (R199). -/
def portBits (bs : List Byte) : List Bool := bs.flatMap fun b => (List.range 8).map fun i => b.getLsbD (7 - i)

/-- The chip selects of the port (R199; 11.7). -/
inductive ChipSelect where
  | converter (k : Converter)
  | ce
  deriving DecidableEq, Repr

/-- The chip select that is low: of the converter in whose transfer the port is, or CE while the image is read; none
between transfers and in a reset (R105, R183, R186, R199). -/
def State.selected (s : State) : Option ChipSelect :=
  match s.loader.phase, s.acq.port with
  | .readingImage, _ => some .ce
  | .running, some (t, _) => some (.converter t.conv)
  | .running, none | .held, _ | .starting _, _ => none

/-- The bytes the node sends on the port in the transfer in progress (R199). -/
def State.portSends (s : State) : List Byte :=
  match s.loader.phase, s.acq.port with
  | .readingImage, _ => imageCommand
  | .running, some (t, _) => t.sends
  | .running, none | .held, _ | .starting _, _ => []

/-- The level of the port clock SCK after so many edges of the transfer in progress: low with no chip select low, since
it idles low (R199). -/
def State.sck (s : State) (edges : Nat) : Bool := s.selected.isSome && sckAfter edges

/-- The bit that the data output SDO carries in a period of the port clock, its rising edge and the falling one after it,
counted from 0 in the transfer in progress; none where the spec says nothing of it (R199). -/
def State.sdo (s : State) (period : Nat) : Option Bool := (portBits s.portSends)[period]?

/-! ## The label message (R197) -/

/-- The eight-bit sum of the message is 0 (R46). -/
def labelSumZero (msg : List Byte) : Bool := decide (msg.foldl (· + ·) 0#8 = 0#8)

end Sys2Proof.Machine
end

