-- ==== Sys2Proof/Machine/Flags.lean ====
section
/-! DEFINITION. The condition flags, the gates, the alarm output and the handing over of a STATE (09), and the slots of
the Line Unit that take a MARK or a STATE (R70). -/

namespace Sys2Proof.Machine

/-- The five groups (09, 9.1). -/
inductive Group where
  | time
  | line
  | data
  | window
  | start
  deriving DecidableEq, Repr

/-- The value of one group. -/
def PerGroup.get {α : Type} (p : PerGroup α) : Group → α
  | .time => p.time
  | .line => p.line
  | .data => p.data
  | .window => p.window
  | .start => p.start

/-- One group's value replaced. -/
def PerGroup.set {α : Type} (p : PerGroup α) (g : Group) (v : α) : PerGroup α :=
  match g with
  | .time => { p with time := v }
  | .line => { p with line := v }
  | .data => { p with data := v }
  | .window => { p with window := v }
  | .start => { p with start := v }

/-- The groups by their codes (R195). -/
def Group.ofCode : Nat → Option Group
  | 0 => some .time
  | 1 => some .line
  | 2 => some .data
  | 3 => some .window
  | 4 => some .start
  | _ => none

/-- The 26 flags (09, 9.1). -/
inductive Flag where
  | refAcquired
  | refLost
  | stepped
  | holdover
  | spreadHigh
  | labelStep
  | duplicate
  | lineStuck
  | frameDropped
  | bankDrop
  | peerExcluded
  | saturated
  | compStepped
  | compLimit
  | tableEdge
  | probeFail
  | deltaF
  | ringWrap
  | ownDeferred
  | forcedInto
  | listFull
  | cycleSkipped
  | powerOn
  | extReset
  | configDefault
  | configClamped
  deriving DecidableEq, Repr

/-- A flag's group (09, 9.1). -/
def Flag.group : Flag → Group
  | .refAcquired | .refLost | .stepped | .holdover | .spreadHigh | .labelStep => .time
  | .duplicate | .lineStuck | .frameDropped | .bankDrop | .peerExcluded => .line
  | .saturated | .compStepped | .compLimit | .tableEdge | .probeFail | .deltaF | .ringWrap => .data
  | .ownDeferred | .forcedInto | .listFull | .cycleSkipped => .window
  | .powerOn | .extReset | .configDefault | .configClamped => .start

/-- A flag's bit in its group's byte (R195). -/
def Flag.mask : Flag → Byte
  | .refAcquired | .duplicate | .saturated | .ownDeferred | .powerOn => 0x01#8
  | .refLost | .lineStuck | .compStepped | .forcedInto | .extReset => 0x02#8
  | .stepped | .frameDropped | .compLimit | .listFull | .configDefault => 0x04#8
  | .holdover | .bankDrop | .tableEdge | .cycleSkipped | .configClamped => 0x08#8
  | .spreadHigh | .peerExcluded | .probeFail => 0x10#8
  | .labelStep | .deltaF => 0x20#8
  | .ringWrap => 0x40#8

/-- A flag is set. -/
def flagIsSet (f : Flag) (s : State) : Bool := decide (s.flag.flags.get f.group &&& f.mask ≠ 0#8)

/-- A flag is in its group's enable mask (R168). -/
def flagEnabled (f : Flag) (s : State) : Bool := decide (s.cfg.masks.get f.group &&& f.mask ≠ 0#8)

/-- The attempt in progress is of this item. -/
def LineUnit.attempting (l : LineUnit) (i : Item) : Bool := l.attempt.any fun a => decide (a.item = i)

/-- A frame handed to a slot: it replaces a pending frame with 0 failures, or becomes the next of a frame in an attempt
(R70). -/
def Slot.handOver (slot : Slot) (inAttempt : Bool) : Slot :=
  if inAttempt then { slot with waiting := true } else { full := true, failures := 0, waiting := false }

/-- A tick is reached, if there is one. -/
def tickReached (t : Option Nat) (s : State) : Bool := t.any fun n => decide (n ≤ s.tick)

/-- A STATE handed to the STATE slot; the STATE period timer, if it runs, restarts at the full period, and an expiry that
has come with this hand-over is still to be taken (R175, R176). -/
def handState (s : State) : State :=
  (s.withLine { s.line with stateSlot := s.line.stateSlot.handOver (s.line.attempting .state) }).withFlag
    { s.flag with
      stateTimer := s.flag.stateTimer.map fun _ => s.tick + s.cfg.statePeriod * Config.ticksPerSecond
      expiryWaits := s.flag.expiryWaits || tickReached s.flag.stateTimer s }

/-- A pulse request: the output is low until 100,000 ticks from now (R170). -/
def requestPulse (s : State) : State := s.withFlag { s.flag with release := some (s.tick + Config.alarmTicks) }

/-- A gate closes, with its pulse and its STATE, as one event (R169). -/
def closeGate (g : Group) (s : State) : State :=
  handState (requestPulse (s.withFlag { s.flag with closed := s.flag.closed.set g true }))

/-- A setting of a flag (R167, R169). -/
def setFlag (f : Flag) (s : State) : State :=
  let s' := s.withFlag { s.flag with flags := s.flag.flags.set f.group (s.flag.flags.get f.group ||| f.mask) }
  if flagEnabled f s && !s.flag.closed.get f.group then closeGate f.group s' else s'

/-- A setting made when a condition holds. -/
def setFlagIf (b : Bool) (f : Flag) (s : State) : State := if b then setFlag f s else s

/-- The clock's reading (R1). -/
def State.reading (s : State) : Nat := s.clock.seconds * Config.second + s.clock.nanoseconds

/-- The node's blocks take events: the Node Clock has been started (R183, R193). -/
def State.running (s : State) : Bool := decide (s.loader.phase = .running)

/-- An instant is reached: the reading is at or later than it (R14). -/
def State.reached (s : State) (t : NodeTime) : Bool := notBefore s.reading t

end Sys2Proof.Machine
end

