-- ==== Sys2Proof/Machine/FlagUnit.lean ====
section
/-! DEFINITION. The Flag Unit's own commands (09): ALARM_RELEASE and STATE_PERIOD_EXPIRY. -/

namespace Sys2Proof.Machine

/-- ALARM_RELEASE (R170): the output returns high. The count is of ticks, whether or not the clock has started (R192). -/
def execAlarmRelease (s : State) : Host.Outcome State Fault Refusal :=
  .next (if tickReached s.flag.release s then s.withFlag { s.flag with release := none } else s)

/-- The STATE period has expired, and its STATE is still to be handed over (R175). -/
def periodExpired (s : State) : Bool := s.running && (s.flag.expiryWaits || tickReached s.flag.stateTimer s)

/-- The periodic STATE is handed over, and the expiry is taken (R175). -/
def periodicState (s : State) : State :=
  (handState s).withFlag { (handState s).flag with expiryWaits := false }

/-- STATE_PERIOD_EXPIRY (R175). -/
def execStatePeriodExpiry (s : State) : Host.Outcome State Fault Refusal :=
  .next (if periodExpired s then periodicState s else s)

end Sys2Proof.Machine
end

