-- ==== Sys2Proof/Machine/RecordRing.lean ====
section
/-! DEFINITION. The Record Ring: commit and overwrite (8.1), the block banks (8.3), and the recall scan (8.4). Its
commands RECALL_RECEIVED and BLOCK_RECEIVED stand in LineUnit.lean, which gives them their frames. -/

namespace Sys2Proof.Machine

/-! ## Commit (R146, R147, R162) -/

/-- A scan's next record is removed by an overwrite (R162). -/
def Scan.overwritten (removed : Nat) (sc : Scan) : Scan :=
  if sc.nextRecord = some removed then
    { sc with nextRecord := if sc.endRecord = some removed then none else some (removed + 1), gap := true }
  else sc

/-- The ring is full: a commit is an overwrite (R147). -/
def RecordRing.full (g : RecordRing) : Bool := decide (Config.ringSize ≤ g.records.length)

/-- A record joins at the newest end; when the ring is full the oldest leaves (R146, R147). -/
def RecordRing.add (r : Record) (g : RecordRing) : RecordRing :=
  if g.full then
    { g with records := g.records.tail ++ [r], base := g.base + 1, scan := g.scan.map (Scan.overwritten g.base) }
  else { g with records := g.records ++ [r] }

/-- A commit (R146); every overwrite sets RING_WRAP (R147). -/
def commit (r : Record) (s : State) : State :=
  setFlagIf s.ring.full .ringWrap (s.withRing (s.ring.add r))

/-- A NOTE record of this node, tagged with the reading, with the timebase state the clock holds (R12, R148). -/
def noteRecord (n : Note) (s : State) : Record :=
  { station := s.cfg.station, role := s.cfg.role, seconds := s.clock.seconds, millis := millisOf s.reading,
    timebase := s.clock.state, flags := RecordFlags.noFlags, body := .note n }

/-- A note handed to the ring. -/
def commitNote (n : Note) (s : State) : State := commit (noteRecord n s) s

/-! ## Block banks (R155 to R158) -/

/-- A bank by its number, 0 (false) or 1 (true). -/
def RecordRing.bank (g : RecordRing) (i : Bool) : Bank := if i then g.bank1 else g.bank0

/-- One bank replaced. -/
def RecordRing.setBank (g : RecordRing) (i : Bool) (b : Bank) : RecordRing :=
  if i then { g with bank1 := b } else { g with bank0 := b }

/-- The bank is FILLING. -/
def Bank.filling (b : Bank) : Bool := decide (b.state = .filling)

/-- The bank an OWN record's copy joins: the FILLING one, or the lower-numbered FREE one (R155). -/
def RecordRing.fillingBank (g : RecordRing) : Option Bool :=
  if g.bank0.filling then some false
  else if g.bank1.filling then some true
  else if g.bank0.state = .free then some false
  else if g.bank1.state = .free then some true
  else none

/-- A FILLING bank holding B records closes, by the other bank's state (R156). Beside a SENDING bank it stays FILLING,
full. -/
def closeBank (i : Bool) (s : State) : State :=
  let b := s.ring.bank i
  let other := s.ring.bank (!i)
  match other.state with
  | .free | .pending =>
    let s' := (s.withRing ((s.ring.setBank i { b with state := .pending }).setBank (!i)
      { state := .filling, records := [] })).withLine { s.line with bankFailures := 0 }
    setFlagIf (decide (other.state = .pending)) .bankDrop s'
  | .sending | .filling => s

/-- A copy of a committed OWN record joins the FILLING bank (R155, R156). -/
def fillBank (r : Record) (s : State) : State :=
  match s.ring.fillingBank with
  | none => s
  | some i =>
    let b := s.ring.bank i
    if b.records.length < s.cfg.bankLength then
      let s' := s.withRing (s.ring.setBank i { state := .filling, records := b.records ++ [r] })
      if b.records.length + 1 < s.cfg.bankLength then s' else closeBank i s'
    else
      setFlag .bankDrop (s.withRing (s.ring.setBank i { state := .filling, records := b.records.tail ++ [r] }))

/-- An OWN record is committed and placed in the filling bank in the same event (R150, R155). -/
def commitOwn (r : Record) (s : State) : State := fillBank r (commit r s)

/-- How an attempt ended (R65, R66, R69, R74). -/
inductive Report where
  | sent
  | failed
  | dropped
  deriving DecidableEq, Repr

/-- A bank's frame is reported on, and a full bank waiting beside it then closes (R158). -/
def bankReport (i : Bool) (rep : Report) (s : State) : State :=
  let b := s.ring.bank i
  let after : Bank := if rep = .failed then { b with state := .pending } else Bank.empty
  let s' := s.withRing (s.ring.setBank i after)
  let other := s'.ring.bank (!i)
  if other.filling && decide (s.cfg.bankLength ≤ other.records.length) then closeBank (!i) s' else s'

/-- The bank offered to the arbiter (R157). -/
def RecordRing.pendingBank (g : RecordRing) : Option Bool :=
  if g.bank0.state = .pending then some false else if g.bank1.state = .pending then some true else none

/-! ## Recall (R159 to R164) -/

/-- The kind of a record that a scan may copy: OWN, CHECK or NOTE (R161). -/
def Body.recalled : Body → Bool
  | .peer _ _ => false
  | .own _ | .check _ _ _ | .note _ => true

/-- The record is in range of a scan (R161). -/
def Record.inRange (first count : Nat) (r : Record) : Bool :=
  r.body.recalled && decide ((r.seconds % 4294967296 + 4294967296 - first % 4294967296) % 4294967296 < count)

/-- What a walk has found: the records for the reply, how many the scan has collected, the place it goes on from (none
when it ended the scan), and whether it ended it. -/
structure Walked where
  records : List Record
  collected : Nat
  nextRecord : Option Nat
  final : Bool
  deriving DecidableEq, Repr

/-- The walk over the records from place k on (R161): it stops at six records, at 256 collected, or at the end record. -/
def walk (first count : Nat) (endRecord : Option Nat) : List Record → Nat → List Record → Nat → Walked
  | [], _, got, n => { records := got, collected := n, nextRecord := none, final := true }
  | r :: rs, k, got, n =>
    let got' := if r.inRange first count then got ++ [r] else got
    let n' := if r.inRange first count then n + 1 else n
    if Config.recallLimit ≤ n' ∨ endRecord = some k then
      { records := got', collected := n', nextRecord := none, final := true }
    else if 6 ≤ got'.length then { records := got', collected := n', nextRecord := some (k + 1), final := false }
    else walk first count endRecord rs (k + 1) got' n'

/-- The walk of a scan from its next record; none left gives an ended walk (R161, R162). -/
def Scan.walkOn (g : RecordRing) (sc : Scan) : Walked :=
  match sc.nextRecord with
  | none => { records := [], collected := sc.collected, nextRecord := none, final := true }
  | some k => walk sc.first sc.count sc.endRecord (g.records.drop (k - g.base)) k [] sc.collected

/-- The next reply of a scan and the scan after it (R161). A count of 0 gives END alone. -/
def Scan.assembled (g : RecordRing) (sc : Scan) : Scan :=
  if sc.count = 0 then
    { sc with nextRecord := none, notHeld := false, gap := false,
              reply := some { final := true, notHeld := false, gap := false, records := [] } }
  else
    let w := sc.walkOn g
    { sc with nextRecord := w.nextRecord, collected := w.collected, notHeld := false, gap := false,
              reply := some { final := w.final, notHeld := sc.notHeld, gap := sc.gap, records := w.records } }

/-- A reply is assembled when the scan has none, and offered with 0 failures (R161). -/
def assembleReply (s : State) : State :=
  match s.ring.scan with
  | none => s
  | some sc =>
    if sc.reply = none then
      (s.withRing { s.ring with scan := some (sc.assembled s.ring) }).withLine { s.line with replyFailures := 0 }
    else s

/-- An OWN record. -/
def Record.isOwn (r : Record) : Bool :=
  match r.body with
  | .own _ => true
  | .peer _ _ | .check _ _ _ | .note _ => false

/-- A scan as it begins (R160): NOT_HELD when its first second is earlier, by R2, than the oldest OWN record's. -/
def newScan (first count : Nat) (g : RecordRing) : Scan :=
  { first := first, count := min count Config.recallLimit,
    nextRecord := if g.records = [] then none else some g.base,
    endRecord := if g.records = [] then none else some (g.base + (g.records.length - 1)),
    collected := 0,
    notHeld :=
      match g.records.find? Record.isOwn with
      | none => true
      | some r => decide (diff (ofSeconds first) (ofSeconds r.seconds) < 0),
    gap := false, endRetried := false, reply := none }

/-- The outcome of the current reply's attempt (R163). -/
def recallReport (rep : Report) (s : State) : State :=
  match s.ring.scan with
  | none => s
  | some sc =>
    match sc.reply with
    | none => s
    | some r =>
      match rep with
      | .failed => s
      | .sent =>
        if r.final then s.withRing { s.ring with scan := none }
        else assembleReply (s.withRing { s.ring with scan := some { sc with reply := none } })
      | .dropped =>
        if r.final then
          if sc.endRetried then s.withRing { s.ring with scan := none }
          else
            (s.withRing { s.ring with
              scan := some { sc with endRetried := true,
                                     reply := some { final := true, notHeld := false, gap := true, records := [] } } }).withLine
              { s.line with replyFailures := 0 }
        else assembleReply (s.withRing { s.ring with scan := some { sc with gap := true, reply := none } })

end Sys2Proof.Machine
end

