-- ==== Sys2Proof/Machine/Ops.lean ====
section
/-! DEFINITION. The Node Clock's advance (1.2) and discipline (1.3, 1.4), and the step event with each block's reaction
(R13, R36, R50, R102, R124, R125). -/

namespace Sys2Proof.Machine

/-! ## Advance (R3, R4) -/

/-- The slew portion of a tick (R4). -/
def slewPortion (r : Int) : Int := clampTo (-(Config.slewPortion : Int)) (Config.slewPortion : Int) r

/-- One oscillator tick of the clock (R3, R4). -/
def Clock.advance (c : Clock) : Clock :=
  let p := slewPortion c.slew
  let rem := (c.remainder : Int) + (c.trim + p)
  let per := (Config.suPerNs : Int)
  let carried : Nat × Int :=
    if per ≤ rem then (c.nanoseconds + 101, rem - per)
    else if rem < 0 then (c.nanoseconds + 99, rem + per)
    else (c.nanoseconds + 100, rem)
  { c with
    seconds := if Config.second ≤ carried.1 then (c.seconds + 1) % 4294967296 else c.seconds
    nanoseconds := if Config.second ≤ carried.1 then carried.1 - Config.second else carried.1
    remainder := carried.2.toNat
    slew := c.slew - p }

/-! ## Discipline (R5 to R8) -/

/-- The six requests (R5). -/
inductive Request where
  | round (c : Int)
  | holdover
  | acquisition (c : Int)
  | tracking (c : Int)
  | labelStep (c : Int)
  | loss
  deriving DecidableEq, Repr

/-- The timebase states in which the clock takes a request (R5). -/
def Request.takenIn : Request → Timebase → Bool
  | .round _, t => decide (t ≠ .referenced)
  | .holdover, t => decide (t = .agreed)
  | .acquisition _, _ => true
  | .tracking _, t | .labelStep _, t | .loss, t => decide (t = .referenced)

/-- The state that results (R5). -/
def Request.result : Request → Timebase
  | .round _ => .agreed
  | .acquisition _ | .tracking _ | .labelStep _ => .referenced
  | .holdover | .loss => .holdover

/-- The correction and the interval, where the request carries them (R5). -/
def Request.correction (period : Nat) : Request → Option (Int × Nat)
  | .round c => some (c, period)
  | .acquisition c | .tracking c | .labelStep c => some (c, 1)
  | .holdover | .loss => none

/-- Whether a discipline event is applied as a step (R6). -/
def isStep (state : Timebase) (c : Int) (interval : Nat) : Bool :=
  decide (state = .free) || decide (500000 * interval < c.natAbs)

/-- The clock's reading. -/
def Clock.reading (c : Clock) : Nat := c.seconds * Config.second + c.nanoseconds

/-- A step of the clock value (R7). -/
def Clock.step (k : Clock) (c : Int) : Clock :=
  let t := plus k.reading c
  { k with seconds := t / Config.second, nanoseconds := t % Config.second, slew := 0 }

/-- A slew (R8). -/
def Clock.startSlew (k : Clock) (c : Int) (interval : Nat) : Clock :=
  { k with slew := c * (Config.suPerNs : Int),
           trim := clampTo (-(Config.trimLimit : Int)) (Config.trimLimit : Int) (k.trim + towardZero c (16 * interval)) }

/-- The timebase state becomes the new one; entry to HOLDOVER makes R zero (R10, R11). -/
def Clock.enter (k : Clock) (t : Timebase) : Clock :=
  { k with state := t, slew := if t = .holdover then 0 else k.slew }

/-! ## The blocks' reactions to a step event -/

/-- A stored node time, if any, moves by c. -/
def move (c : Int) (t : Option NodeTime) : Option NodeTime := t.map fun v => plus v c

/-- An offset held within its bound (R23). -/
def clampOffset (v : Int) : Int := clampTo (-(Config.offsetLimit : Int)) (Config.offsetLimit : Int) v

/-- A row at a step event (R36). -/
def Row.onStep (c : Int) (r : Row) : Row :=
  { r with offset := if r.fresh then clampOffset (r.offset - c) else r.offset, lastCapture := move c r.lastCapture }

/-- The Agreement Unit at a step event: the rows, the step sum, the round and MARK timers (R18, R19, R36). -/
def Agreement.onStep (cfg : Settings) (reading : NodeTime) (c : Int) (a : Agreement) : Agreement :=
  { a with
    rows := a.rows.map (Row.onStep c)
    stepSum := a.stepSum + c
    nextRound := nextOther cfg.periodNs 0 reading a.lastRound
    nextMark := nextOther cfg.periodNs (cfg.markOffset : Nat) reading a.lastMark }

/-- The label input at a step event (R50). -/
def LabelInput.onStep (c : Int) : LabelInput → LabelInput
  | .waiting => .waiting
  | .assembling chars lastEnd => .assembling chars (plus lastEnd c)

/-- The Reference Input at a step event (R50). -/
def RefInput.onStep (c : Int) (r : RefInput) : RefInput :=
  { r with
    lastPulse := move c r.lastPulse
    deadline := move c r.deadline
    label := r.label.map fun l => { l with arrival := plus l.arrival c }
    labelRx := r.labelRx.onStep c
    acqCount := 0
    prevError := none }

/-- A window at a step event (R102). -/
def Entry.onStep (c : Int) (w : Entry) : Entry := { w with start := plus w.start c, finish := plus w.finish c }

/-- A protected interval at a step event (R102). -/
def Protected.onStep (c : Int) (p : Protected) : Protected :=
  { p with start := plus p.start c, finish := plus p.finish c }

/-- A cause at a step event: the cycle start of a POLARIZE cause moves (R102). -/
def Cause.onStep (c : Int) : Cause → Cause
  | .polarize t => .polarize (plus t c)
  | .void => .void
  | .compStep comps => .compStep comps

/-- The own window record at a step event (R102). -/
def OwnWindow.onStep (c : Int) (o : OwnWindow) : OwnWindow :=
  { o with
    cause := o.cause.onStep c
    responseEnd := move c o.responseEnd
    start := move c o.start
    finish := move c o.finish
    waitEnd := move c o.waitEnd }

/-- The Window Unit at a step event (R102). -/
def WindowUnit.onStep (c : Int) (w : WindowUnit) : WindowUnit :=
  { w with
    own := w.own.onStep c
    list := w.list.map (Entry.onStep c)
    held := w.held.map (Entry.onStep c)
    blankAllEnd := move c w.blankAllEnd
    ownProt := w.ownProt.map (Protected.onStep c)
    counting := w.counting.map (Protected.onStep c)
    leadCap := move c w.leadCap }

/-- The node times kept with a frame of the window queue move (R102). -/
def WinFrame.onStep (c : Int) : WinFrame → WinFrame
  | .ask id cls d a => .ask id cls d a
  | .defer w lead e g m => .defer (w.onStep c) lead (plus e c) g m
  | .withdraw id t => .withdraw id (plus t c)

/-- A queued frame at a step event. -/
def Queued.onStep (c : Int) (q : Queued) : Queued := { q with frame := q.frame.onStep c }

/-- A field conversion under way at a step serves an abandoned second (R124 stage 1). R124 speaks of the conversions
still outstanding; one whose start transfer is still waiting or in progress at the step, and which R106 does not yet call
outstanding, is abandoned too, so that its count enters no accumulation and is not tested (DESIGN CHOICE, log entry
38). -/
def Conversion.abandon (v : Conversion) : Conversion :=
  match v.job with
  | .field k smp => { v with job := .field k { smp with serves := .abandoned } }
  | .probe _ | .counter => v

/-- The conversions at a step event: the field ones are abandoned (R124). -/
def Conversions.onStep (v : Conversions) : Conversions :=
  { v with fc0 := v.fc0.map Conversion.abandon, fc1 := v.fc1.map Conversion.abandon,
           fc2 := v.fc2.map Conversion.abandon }

/-- The measuring cycle at a step event (R125). -/
def Measuring.onStep (c : Int) (m : Measuring) : Measuring :=
  { windowEnd := plus m.windowEnd c
    stage :=
      match m.stage with
      | .polarizing => .polarizing
      | .counting o e => .counting (plus o c) (plus e c) }

/-- Half a second before a cycle start (R118). -/
def askOffset : Int := -500000000

/-- The Acquisition Unit at a step event (R124, R125). -/
def Acquisition.onStep (cfg : Settings) (reading : NodeTime) (c : Int) (a : Acquisition) : Acquisition :=
  { a with
    gathering := none
    stepped := true
    nextTrigger := firstInstant 100000000 50000000 reading
    nextScan := firstInstant 250000000 125000000 reading
    scanHold := true
    conversions := a.conversions.onStep
    probes := a.probes.map fun p => { p with lastGood := move c p.lastGood }
    ownWin := a.ownWin.map fun w => { w with start := plus w.start c, finish := plus w.finish c }
    measuring := a.measuring.map (Measuring.onStep c)
    reading := a.reading.map fun r => { r with openTime := plus r.openTime c }
    asked := move c a.asked
    nextAsk := nextOther (cfg.cycle * Config.second) askOffset reading a.lastAsk }

/-- The blocks' reactions to a step event with correction c (R13), each on state of its own. -/
def stepReactions (c : Int) (s : State) : State :=
  { s with
    agr := s.agr.onStep s.cfg s.reading c
    ref := s.ref.onStep c
    win := s.win.onStep c
    line := { s.line with queue := s.line.queue.map (Queued.onStep c) }
    acq := s.acq.onStep s.cfg s.reading c }

/-- A step event (R13): the reactions, the STEP note, and STEPPED. -/
def stepEvent (c : Int) (s : State) : State := setFlag .stepped (commitNote (.step c) (stepReactions c s))

/-- What a change of timebase state brings: the TIMEBASE note (R12), REF_LOST on leaving REFERENCED, HOLDOVER on entering
HOLDOVER (R11). -/
def stateChanged (old : Timebase) (s : State) : State :=
  setFlagIf (decide (s.clock.state = .holdover)) .holdover
    (setFlagIf (decide (old = .referenced)) .refLost (commitNote (.timebase old) s))

/-- The clock after an accepted request: the correction first, then the state (R10). -/
def Request.clockAfter (period : Nat) (q : Request) (k : Clock) : Clock :=
  let corrected :=
    match q.correction period with
    | none => k
    | some (c, interval) => if isStep k.state c interval then k.step c else k.startSlew c interval
  corrected.enter q.result

/-- The step an accepted request makes, if any (R6). -/
def Request.stepMade (period : Nat) (q : Request) (k : Clock) : Option Int :=
  match q.correction period with
  | none => none
  | some (c, interval) => if isStep k.state c interval then some c else none

/-- A request at the Node Clock (R5 to R13): ignored whole outside its states; otherwise the correction, the state, the
step event, and what the change of state brings. -/
def takeRequest (q : Request) (s : State) : State :=
  if q.takenIn s.clock.state then
    let s1 := s.withClock (q.clockAfter s.cfg.period s.clock)
    let s2 :=
      match q.stepMade s.cfg.period s.clock with
      | none => s1
      | some c => stepEvent c s1
    if q.result = s.clock.state then s2 else stateChanged s.clock.state s2
  else s

end Sys2Proof.Machine
end

