-- ==== Sys2Proof/Machine/Correction.lean ====
section
/-! DEFINITION. The Correction Unit (07): means, temperatures, tables, corrected values, OWN records, the recent-F buffer
and the ΔF check. -/

namespace Sys2Proof.Machine

/-! ## Temperature (R117, R131, R132) -/

/-- The temperature state handed with a component (R117). -/
inductive TempState where
  | noTemp
  | good (p : Nat)
  | held (p : Nat)
  | stale (p : Nat)
  deriving DecidableEq, Repr

/-- The count handed, if any. -/
def TempState.count : TempState → Option Nat
  | .noTemp => none
  | .good p | .held p | .stale p => some p

/-- The state of a probe at an instant (R117): TEMP_STALE when the last good reading is more than 600 s old. -/
def Probe.stateAt (instant : NodeTime) (p : Probe) : TempState :=
  match p.status, p.count, p.lastGood with
  | .good, some n, _ => .good n
  | .failed, some n, some t => if 600000000000 < diff instant t then .stale n else .held n
  | _, _, _ => .noTemp

/-- The probe of a number. -/
def Acquisition.probe (a : Acquisition) (j : Nat) : Probe :=
  a.probes.getD j { status := .void, count := none, lastGood := none }

/-- The settings of a probe. -/
def Settings.probe (cfg : Settings) (j : Nat) : ProbeSettings := cfg.probes.getD j { origin := -5000, span := 12000 }

/-- The temperature of a held count (R131). -/
def temperatureOf (p : ProbeSettings) (count : Nat) : Int :=
  clampTo (-5000) 7000 (p.origin + roundHalfAway ((count * p.span : Nat) : Int) 65536)

/-! ## The correction table (R133 to R135) -/

/-- Between two breakpoints (R134). -/
def interpolate (t0 t1 v0 v1 t : Int) : Int := v0 + roundHalfAway ((v1 - v0) * (t - t0)) (t1 - t0).natAbs

/-- Offset, scale error, and TABLE_EDGE (R133), for a temperature not below the first breakpoint's. -/
def tableFrom (t : Int) : Breakpoint → List Breakpoint → Int × Int × Bool
  | b, [] => (b.offset, b.scale, decide (b.temperature < t))
  | b, b' :: rest =>
    if t < b'.temperature then
      (interpolate b.temperature b'.temperature b.offset b'.offset t,
       interpolate b.temperature b'.temperature b.scale b'.scale t, false)
    else tableFrom t b' rest

/-- Offset, scale error, and TABLE_EDGE, from a table at a temperature (R133). -/
def lookUp (table : List Breakpoint) (t : Int) : Int × Int × Bool :=
  match table with
  | [] => (0, 0, false)
  | [b] => (b.offset, b.scale, false)
  | b :: b' :: rest => if t < b.temperature then (b.offset, b.scale, true) else tableFrom t b (b' :: rest)

/-- A field value held within ±400,000,000 pT (R135). -/
def clampField (v : Int) : Int := clampTo (-(Config.fieldLimit : Int)) (Config.fieldLimit : Int) v

/-- The corrected value (R135). -/
def correctedBy (mean offset scale : Int) : Int :=
  clampField (mean - offset - roundHalfAway (mean * scale) 100000000)

/-- A present component's corrected value, and whether it was corrected at a table's end (R132, R133, R135). -/
def correctValue (cfg : Settings) (c : CompSettings) (t : TempState) (mean : Int) : Int × Bool :=
  match t.count with
  | none => (correctedBy mean 0 0, false)
  | some p =>
    let r := lookUp c.table (temperatureOf (cfg.probe c.probe) p)
    (correctedBy mean r.1 r.2.1, r.2.2)

/-- The mean of a component that is present (R130). -/
def presentMean (minimum : Nat) (a : Accum) : Option Int :=
  if minimum ≤ a.valid then some (roundHalfAway a.sum a.valid) else none

/-- The record's temperature field: the T of probe 0 (R132). -/
def recordTemperature (s : State) (instant : NodeTime) : Option Int :=
  ((s.acq.probe 0).stateAt instant).count.map (temperatureOf (s.cfg.probe 0))

/-! ## OWN records (R129, R136 to R139) -/

/-- An OWN record of this node with the timebase state the clock holds (R137, R139). -/
def ownRecord (s : State) (seconds millis : Nat) (flags : RecordFlags) (v : Values) : Record :=
  { station := s.cfg.station, role := s.cfg.role, seconds := seconds, millis := millis, timebase := s.clock.state,
    flags := flags, body := .own v }

/-- What one present component brings: its corrected value, its table edge, its temperature state. -/
structure Corrected where
  value : Int
  edge : Bool
  temp : TempState
  deriving DecidableEq, Repr

/-- One component of a closed second (R130 to R135). -/
def closeComponent (s : State) (instant : NodeTime) (c : Comp) (a : Accum) : Option Corrected :=
  let k := s.cfg.comps.get c
  let t := (s.acq.probe k.probe).stateAt instant
  (presentMean s.cfg.minSamples a).map fun mean =>
    { value := (correctValue s.cfg k t mean).1, edge := (correctValue s.cfg k t mean).2, temp := t }

/-- The record flags that present components bring (R132, R133, R138). -/
def broughtBy (cs : List Corrected) (f : RecordFlags) : RecordFlags :=
  { f with
    tableEdge := cs.any (·.edge)
    noTemp := cs.any fun c => decide (c.temp = .noTemp)
    tempHeld := cs.any fun c => match c.temp with | .held _ | .stale _ => true | .noTemp | .good _ => false
    tempStale := cs.any fun c => match c.temp with | .stale _ => true | .noTemp | .good _ | .held _ => false }

/-- A record is handed to the Record Ring, and TABLE_EDGE is set if it carries it (R139). -/
def handRecord (r : Record) (s : State) : State := setFlagIf r.flags.tableEdge .tableEdge (commitOwn r s)

/-- F_v: the floor of the square root of the sum of squares (R141). -/
def totalField (v : Triple Int) : Nat :=
  root (v.x.natAbs * v.x.natAbs + v.y.natAbs * v.y.natAbs + v.z.natAbs * v.z.natAbs)

/-- An entry joins the recent-F buffer; of 64 the oldest leaves first (R140). -/
def joinBuffer (second total : Nat) (buf : List (Nat × Nat)) : List (Nat × Nat) :=
  (if Config.bufferSize ≤ buf.length then buf.tail else buf) ++ [(second, total)]

/-- The record's F_v joins the recent-F buffer when its conditions hold (R140). -/
def bufferRecord (r : Record) (v : Values) (s : State) : State :=
  match v.value.x, v.value.y, v.value.z with
  | some x, some y, some z =>
    if s.cfg.role = .vector ∧ s.cfg.partner.isSome ∧ r.flags.disturbed = false then
      s.withCorr { s.corr with recentF := joinBuffer r.seconds (totalField ⟨x, y, z⟩) s.corr.recentF }
    else s
  | _, _, _ => s

/-- A closed second at the Correction Unit (R129): its record, its hand-over, the buffer. -/
def closeSecond (second : Nat) (instant : NodeTime) (acc : Triple Accum) (stepped disturbed : Bool) (s : State) : State :=
  let cx := closeComponent s instant .x acc.x
  let cy := closeComponent s instant .y acc.y
  let cz := closeComponent s instant .z acc.z
  let v : Values :=
    { value := ⟨cx.map (·.value), cy.map (·.value), cz.map (·.value)⟩, valid := acc.map (·.valid),
      temperature := recordTemperature s instant }
  let flags := broughtBy (cx.toList ++ cy.toList ++ cz.toList)
    { RecordFlags.noFlags with
      stepped := stepped
      blanked := acc.toList.any fun a => decide (0 < a.blanked)
      partly := acc.toList.any fun a => decide (a.valid < 10)
      saturated := acc.toList.any fun a => decide (0 < a.saturated)
      missing := acc.toList.any fun a => decide (0 < a.missing)
      disturbed := disturbed }
  let r := ownRecord s second 0 flags v
  bufferRecord r v (handRecord r s)

/-! ## The scalar value (R121, R122, R136) -/

/-- What a scalar reading hands over (R136). -/
inductive ScalarValue where
  | frequency (mHz : Nat)
  | missing
  | skipped
  deriving DecidableEq, Repr

/-- F of a frequency in mHz (R136). -/
def scalarField (mHz : Nat) : Int := roundHalfAway ((mHz * 234872 : Nat) : Int) 10000

/-- A scalar reading at the Correction Unit (R136 to R139). -/
def closeScalar (tag : NodeTime) (value : ScalarValue) (stepped disturbed : Bool) (s : State) : State :=
  let k := s.cfg.comps.x
  let t := (s.acq.probe k.probe).stateAt s.reading
  let clamped := match value with | .frequency f => decide (17000000 < f) | .missing | .skipped => false
  let present : Option Corrected :=
    match value with
    | .frequency f =>
      if f = 0 then none
      else
        let c := correctValue s.cfg k t (scalarField (min f 17000000))
        some { value := c.1, edge := c.2, temp := t }
    | .missing | .skipped => none
  let v : Values :=
    { value := ⟨present.map (·.value), none, none⟩, valid := ⟨if present.isSome then 10 else 0, 0, 0⟩,
      temperature := recordTemperature s s.reading }
  let flags := broughtBy present.toList
    { RecordFlags.noFlags with
      stepped := stepped
      disturbed := disturbed
      saturated := clamped
      missing := decide (value = .missing) || decide (value = .frequency 0)
      skipped := decide (value = .skipped) }
  setFlagIf clamped .saturated (handRecord (ownRecord s (secondsOf tag) (millisOf tag) flags v) s)

/-- A node time with its part below a millisecond dropped: what a tag holds (R1). -/
def tagTime (t : Nat) : Nat := t - t % Config.milli

/-- A reading with its tag is handed over, or discarded when its tag is not later than the last own record's (R121,
R122). -/
def handReading (tag : NodeTime) (value : ScalarValue) (disturbed : Bool) (s : State) : State :=
  if s.acq.lastTag.any fun l => !later (tagTime tag) l then s
  else
    (closeScalar (tagTime tag) value s.acq.stepped disturbed s).withAcq
      { s.acq with lastTag := some (tagTime tag), stepped := false }

/-! ## The ΔF check (R142 to R144) -/

/-- A tag rounded to the nearest second (R142). -/
def nearestSecond (r : Record) : Nat := if r.millis < 500 then r.seconds else (r.seconds + 1) % 4294967296

/-- The F_s of a PEER record that this node takes for the check (R142). -/
def partnerField (cfg : Settings) (r : Record) : Option Int :=
  if cfg.role = .vector ∧ cfg.partner = some r.station ∧ r.role = .scalar ∧ r.flags.disturbed = false then
    match r.body with
    | .peer v _ => v.value.x
    | .own _ | .check _ _ _ | .note _ => none
  else none

/-- The CHECK record of a match (R143). -/
def checkRecord (s : State) (second : Nat) (fs : Int) (fv : Nat) : Record :=
  { station := s.cfg.station, role := s.cfg.role, seconds := second, millis := 0, timebase := s.clock.state,
    flags := RecordFlags.noFlags, body := .check fs (clampField fv) (clampField (fs - fv)) }

/-- The run count after a CHECK, from its unclamped ΔF (R144). -/
def runAfter (limit : Nat) (delta : Int) (run : Nat) : Nat := if delta.natAbs ≤ limit then 0 else min (run + 1) 3

/-- A PEER record handed to the Correction Unit (R142 to R144). -/
def checkPeer (r : Record) (s : State) : State :=
  match partnerField s.cfg r with
  | none => s
  | some fs =>
    match s.corr.recentF.find? fun e => decide (e.1 = nearestSecond r) with
    | none => s
    | some e =>
      let s' := commit (checkRecord s e.1 fs e.2) s
      let run := runAfter s.cfg.deltaLimit (fs - e.2) s.corr.runCount
      setFlagIf (decide (run = 3)) .deltaF (s'.withCorr { s'.corr with runCount := run })

/-- A staged record is tested, committed as PEER, and handed on for the check (R153, R154). -/
def commitPeer (station : Nat) (role : Role) (bs : List Byte) (s : State) : State :=
  match peerRecord station role bs with
  | none => s
  | some r => checkPeer r (commit r s)

end Sys2Proof.Machine
end

