-- ==== Sys2Proof/Machine/Sensor.lean ====
section
/-! DEFINITION. What the Acquisition Unit does when the Window Unit tells it of a window (R112, R119, R120, R122), and
the converters' conversions and transfers (R105, R106). -/

namespace Sys2Proof.Machine

/-! ## Conversions and the port -/

/-- The conversion of a converter. -/
def Conversions.get (v : Conversions) : Converter → Option Conversion
  | .fc0 => v.fc0
  | .fc1 => v.fc1
  | .fc2 => v.fc2
  | .tc => v.tc
  | .sc => v.sc

/-- One converter's conversion replaced. -/
def Conversions.set (v : Conversions) (k : Converter) (x : Option Conversion) : Conversions :=
  match k with
  | .fc0 => { v with fc0 := x }
  | .fc1 => { v with fc1 := x }
  | .fc2 => { v with fc2 := x }
  | .tc => { v with tc := x }
  | .sc => { v with sc := x }

/-- A converter's conversion set. -/
def Acquisition.setConv (a : Acquisition) (k : Converter) (x : Option Conversion) : Acquisition :=
  { a with conversions := a.conversions.set k x }

/-- A transfer joins those requested, served in order (R105). -/
def Acquisition.request (a : Acquisition) (t : Transfer) : Acquisition := { a with portQueue := a.portQueue ++ [t] }

/-- The probe number that the start of a conversion carries (R199). -/
def Job.probeNumber : Job → Nat
  | .probe j => j
  | .field _ _ | .counter => 0

/-- A new conversion is numbered and its start requested (R106 stage 1). -/
def Acquisition.begin (a : Acquisition) (k : Converter) (job : Job) (outstanding : Bool) (deadline : Nat) : Acquisition :=
  ({ a with serial := a.serial + 1,
            conversions := a.conversions.set k
              (some { id := a.serial, job := job, outstanding := outstanding, deadline := deadline, nextPoll := none,
                      readAsked := false }) }).request
    { conv := k, kind := .start, probe := job.probeNumber, id := a.serial }

/-! ## Compensation changes (R112) -/

/-- A direction as a number (R110). -/
def Dir.sign : Dir → Int
  | .up => 1
  | .down => -1

/-- A field conversion outstanding at a compensation change of its component (R112). -/
def Conversion.markChanged (v : Conversion) : Conversion :=
  match v.job with
  | .field k smp => if v.outstanding then { v with job := .field k { smp with changed := true } } else v
  | .probe _ | .counter => v

/-- A component with a pending direction is changed: its steps, its output, its pending direction, its COMP note. -/
def changeComponent (c : Comp) (s : State) : State :=
  match s.acq.pendingDir.get c with
  | none => s
  | some d =>
    let n := s.acq.steps.get c + d.sign
    commitNote (.comp c n)
      (s.withAcq { s.acq with
        steps := s.acq.steps.set c n
        pendingDir := s.acq.pendingDir.set c none
        conversions := s.acq.conversions.set c.converter
          ((s.acq.conversions.get c.converter).map Conversion.markChanged) })

/-- A component of the window's set is changed. -/
def changeIf (set : Triple Bool) (c : Comp) (s : State) : State := if set.get c then changeComponent c s else s

/-- Some component of the set has a pending direction. -/
def anyPending (set : Triple Bool) (p : Triple (Option Dir)) : Bool :=
  (set.x && p.x.isSome) || (set.y && p.y.isSome) || (set.z && p.z.isSome)

/-- The compensation change at an own COMP_STEP window's start, in the order X, Y, Z (R112). -/
def compensationChange (set : Triple Bool) (s : State) : State :=
  setFlagIf (anyPending set s.acq.pendingDir) .compStepped
    (changeIf set .z (changeIf set .y (changeIf set .x s)))

/-! ## The scalar cycle (R119 to R122) -/

/-- The tag of a reading: the gate's open time plus half the count duration (R121). -/
def readingTag (s : State) (openTime : Nat) : Nat := plus openTime (s.cfg.count * 500000 : Nat)

/-- The disturbed mark of the counting phase that ends at an instant, as it stands. -/
def phaseMark (s : State) (finish : NodeTime) : Bool := s.win.counting.any fun p => decide (p.finish = finish) && p.mark

/-- A cycle still COUNTING when a new window starts: its reading is handed over MISSING (R119). -/
def cutOffCounting (s : State) : State :=
  match s.acq.measuring with
  | some { stage := .counting openTime countEnd, .. } =>
    handReading (readingTag s openTime) .missing (phaseMark s countEnd) s
  | some { stage := .polarizing, .. } => s
  | none => s

/-- A POLARIZE window's start: the asked cycle becomes the measuring cycle, and polarize is turned on (R119). -/
def polarizeOn (windowEnd : NodeTime) (s : State) : State :=
  let s' := cutOffCounting s
  s'.withAcq { s'.acq with
    asked := none, measuring := some { windowEnd := windowEnd, stage := .polarizing }, polarizeOut := true,
    countOut := false }

/-- A POLARIZE window's end: polarize off, the count gate opened (R120). -/
def openGate (windowEnd : NodeTime) (s : State) : State :=
  s.withAcq { s.acq with
    polarizeOut := false
    countOut := true
    measuring := some { windowEnd := windowEnd,
                        stage := .counting windowEnd (plus windowEnd (s.cfg.count * Config.milli : Nat)) } }

/-- A skipped cycle is handed over as a reading with no value and SKIPPED, and CYCLE_SKIPPED is set (R82, R122). -/
def skipCycle (cycleStart : NodeTime) (s : State) : State :=
  setFlag .cycleSkipped
    (handReading (plus cycleStart (s.cfg.polarize * Config.milli + s.cfg.count * 500000 : Nat)) .skipped false s)

/-- The reading cycle is complete with a value (R121). -/
def completeReading (value : ScalarValue) (s : State) : State :=
  match s.acq.reading with
  | none => s
  | some r =>
    let s' := handReading (readingTag s r.openTime) value r.mark s
    s'.withAcq { s'.acq with reading := none }

end Sys2Proof.Machine
end

