-- ==== Sys2Proof/Machine/Windows.lean ====
section
/-! DEFINITION. The Window Unit (05): the window queue's hand-over (R71), the own window record (5.3), the receiver's
decision (5.4), the blanking list (5.5), and the commands RESPONSE_END, WINDOW_START, WINDOW_END, WAIT_END, ENTRY_END,
BLANK_ALL_END, HELD_WINDOW_EXPIRY and DEFER_DEADLINE. -/

namespace Sys2Proof.Machine

/-! ## The blanking list (R98 to R101) -/

/-- An entry placed in order of start, after entries of equal start (R98). -/
def insertEntry (w : Entry) : List Entry → List Entry
  | [] => [w]
  | e :: es => if later e.start w.start then w :: e :: es else e :: insertEntry w es

/-- The entries that do not carry a window id. -/
def without (id : WinId) (es : List Entry) : List Entry := es.filter fun e => decide (e.id ≠ id)

/-- An entry carries the window id. -/
def carries (id : WinId) (es : List Entry) : Bool := es.any fun e => decide (e.id = id)

/-- The later of a blank-all end and a window's end (R100). -/
def extendEnd (finish : NodeTime) : Option NodeTime → NodeTime
  | none => finish
  | some e => latest e finish

/-- A window that must be entered: an entry, or with the list full a held window, or beyond four blank-all (R98, R100). -/
def enterWindow (w : Entry) (s : State) : State :=
  let l := without w.id s.win.list
  if l.length < Config.listSize then s.withWin { s.win with list := insertEntry w l }
  else if s.win.held.length < Config.heldSize then
    setFlag .listFull (s.withWin { s.win with held := s.win.held ++ [w] })
  else setFlag .listFull (s.withWin { s.win with blankAllEnd := some (extendEnd w.finish s.win.blankAllEnd) })

/-- After an entry has left: held windows whose end is reached are discarded, and the oldest remaining is entered
(R100). -/
def freePlace (reading : NodeTime) (w : WindowUnit) : WindowUnit :=
  let h := w.held.filter fun e => later e.finish reading
  match h with
  | [] => { w with held := [] }
  | e :: es =>
    let l := without e.id w.list
    if l.length < Config.listSize then { w with held := es, list := insertEntry e l } else { w with held := h }

/-- The entry and the held window of a window id are removed (R79, R86, R99). -/
def dropWindow (id : WinId) (s : State) : State :=
  let w := { s.win with held := without id s.win.held }
  if carries id w.list then s.withWin (freePlace s.reading { w with list := without id w.list }) else s.withWin w

/-- Blank-all holds (R100). -/
def blankAllHolds (s : State) : Bool :=
  decide (s.win.held ≠ []) || s.win.blankAllEnd.any fun e => !s.reached e

/-- The Window Unit's answer for a sample instant (R101). -/
structure BlankAnswer where
  blanked : Bool
  blankAll : Bool
  byCompStep : Bool
  deriving DecidableEq, Repr

/-- The entry covers the instant (R101). -/
def Entry.covers (t : NodeTime) (e : Entry) : Bool := within e.start e.finish t

/-- Whether an instant is blanked, and by what (R101). -/
def blankQuery (instant : NodeTime) (s : State) : BlankAnswer :=
  let covered := s.win.list.filter (Entry.covers instant)
  { blanked := blankAllHolds s || decide (covered ≠ []), blankAll := blankAllHolds s,
    byCompStep := covered.any fun e => decide (e.cls = .compStep) }

/-! ## Overlap and marks (R92, R93) -/

/-- A window, widened by the guard, overlaps an interval (R92). -/
def Entry.overlaps (w : Entry) (start finish : NodeTime) : Bool :=
  later finish (plus w.start (-(Config.guardNs : Int))) && later (plus w.finish (Config.guardNs : Nat)) start

/-- A window overlaps a protected interval. -/
def Entry.overlapsProt (w : Entry) (p : Protected) : Bool := w.overlaps p.start p.finish

/-- The protected intervals: the own window's, and the counting phases (R92). -/
def WindowUnit.protectedIntervals (w : WindowUnit) : List Protected := w.ownProt.toList ++ w.counting

/-- The mark set if the window overlaps the interval. -/
def Protected.markBy (w : Entry) (p : Protected) : Protected := { p with mark := p.mark || w.overlapsProt p }

/-- The protected intervals a window overlaps get their marks, and FORCED_INTO is set if there is one (R93, R97). -/
def markOverlapped (w : Entry) (s : State) : State :=
  setFlagIf (s.win.protectedIntervals.any w.overlapsProt) .forcedInto
    (s.withWin { s.win with ownProt := s.win.ownProt.map (Protected.markBy w),
                            counting := s.win.counting.map (Protected.markBy w) })

/-! ## The window queue (R71, R97) -/

/-- A DEFER that is not in an attempt. -/
def Queued.idleDefer (q : Queued) : Bool :=
  !q.inAttempt && match q.frame with | .defer _ _ _ _ _ => true | .ask _ _ _ _ | .withdraw _ _ => false

/-- A WITHDRAW that is not in an attempt. -/
def Queued.idleWithdraw (q : Queued) : Bool :=
  !q.inAttempt && match q.frame with | .withdraw _ _ => true | .ask _ _ _ _ | .defer _ _ _ _ _ => false

/-- A DEFER removed or dropped: the window is entered as a forced one would be, unless a WITHDRAW has marked the DEFER
(R97). The entry keeps the forced value of its ASK, no, so that the test of R88 does not take it for a forced one (DESIGN
CHOICE, log entry 35). -/
def deferLost (f : WinFrame) (s : State) : State :=
  match f with
  | .defer w _ _ _ marked =>
    if marked then s
    else
      let s' := markOverlapped w s
      if later w.finish s.reading && !carries w.id s.win.list then enterWindow w s' else s'
  | .ask _ _ _ _ | .withdraw _ _ => s

/-- A frame handed to the window queue; a full queue first gives up its oldest DEFER, else its oldest WITHDRAW (R71). -/
def joinQueue (f : WinFrame) (s : State) : State :=
  let q := s.line.queue
  let new : Queued := { frame := f, failures := 0, inAttempt := false }
  if q.length < Config.queueSize then s.withLine { s.line with queue := q ++ [new] }
  else
    match q.find? Queued.idleDefer with
    | some d => deferLost d.frame (s.withLine { s.line with queue := q.eraseP Queued.idleDefer ++ [new] })
    | none =>
      match q.find? Queued.idleWithdraw with
      | some _ => s.withLine { s.line with queue := q.eraseP Queued.idleWithdraw ++ [new] }
      | none => s

/-! ## The own window record (R81 to R91) -/

/-- The class of a cause. -/
def Cause.cls : Cause → WinClass
  | .compStep _ => .compStep
  | .polarize _ | .void => .polarize

/-- The duration of a window of a class, ms (R78). -/
def Settings.duration (cfg : Settings) : WinClass → Nat
  | .compStep => cfg.settle
  | .polarize => cfg.polarize

/-- The affect set of a class (R78). -/
def Settings.affect (cfg : Settings) : WinClass → StationSet
  | .compStep => cfg.compAffect
  | .polarize => cfg.polarizeAffect

/-- The window id of the ASK last handed over (R83). -/
def ownId (s : State) : WinId := { station := s.cfg.station, seq := (s.win.own.seq + 15) % 16 }

/-- The record hands an ASK to the window queue and is ASKING (R83). -/
def handAsk (s : State) : State :=
  let o := s.win.own
  joinQueue (.ask { station := s.cfg.station, seq := o.seq } o.cause.cls (s.cfg.duration o.cause.cls)
      (s.cfg.affect o.cause.cls))
    (s.withWin { s.win with own := { o with
      state := .asking, attempts := min (o.attempts + 1) 255, seq := (o.seq + 1) % 16, responseEnd := none,
      start := none, finish := none, waitEnd := none } })

/-- A COMP_STEP cause for a component (R82). -/
def compCause (k : Comp) (s : State) : State :=
  let o := s.win.own
  match o.state with
  | .none =>
    handAsk (s.withWin { s.win with own := { o with
      cause := .compStep ((Triple.all false).set k true), attempts := 0 } })
  | .opened => s.withWin { s.win with own := { o with nextComps := o.nextComps.set k true } }
  | .asking | .waiting | .granted | .deferred =>
    match o.cause with
    | .compStep set => s.withWin { s.win with own := { o with cause := .compStep (set.set k true) } }
    | .polarize _ | .void => s

/-- A POLARIZE cause for a cycle: taken in NONE, skipped otherwise (R82, R118). -/
def polarizeCause (t : NodeTime) (s : State) : State :=
  let o := s.win.own
  if o.state = .none then
    handAsk ((s.withWin { s.win with own := { o with cause := .polarize t, attempts := 0 } }).withAcq
      { s.acq with asked := some t })
  else skipCycle t s

/-- The record becomes NONE, its void fields void (R81). -/
def OwnWindow.ended (o : OwnWindow) : OwnWindow :=
  { o with state := .none, cause := .void, urgent := false, responseEnd := none, start := none, finish := none,
           waitEnd := none }

/-- A refusal of the own ASK (R86): `sent` says whether the ASK was sent. -/
def refuseOwn (waitEnd : NodeTime) (sent : Bool) (s : State) : State :=
  let s1 := setFlag .ownDeferred s
  let s2 :=
    if sent then
      let withdrawn := joinQueue (.withdraw (ownId s) (s.win.own.start.getD 0)) s1
      if s.win.own.cause.cls = .compStep then dropWindow (ownId s) withdrawn else withdrawn
    else s1
  let o := s2.win.own
  match o.cause with
  | .compStep _ =>
    s2.withWin { s2.win with
      own := { o with state := .deferred, responseEnd := none, start := none, finish := none, waitEnd := some waitEnd },
      waitHold := true }
  | .polarize t =>
    skipCycle t ((s2.withWin { s2.win with own := o.ended }).withAcq { s2.acq with asked := none })
  | .void => s2.withWin { s2.win with own := o.ended }

/-- The own ASK is sent, with the delay and forced values it carried (R84). -/
def askSent (forced : Bool) (delay : Nat) (s : State) : State :=
  let o := s.win.own
  let lead := s.win.leadCap.getD s.reading
  let start := plus lead (delay * Config.milli : Nat)
  let finish := plus start (s.cfg.duration o.cause.cls * Config.milli : Nat)
  let s' := s.withWin { s.win with own := { o with
    state := .waiting, forced := forced, urgent := false, responseEnd := some (plus lead (Config.responseNs : Nat)),
    start := some start, finish := some finish, waitEnd := none } }
  if o.cause.cls = .compStep then
    enterWindow { id := ownId s, cls := .compStep, start := start, finish := finish, forced := forced } s'
  else s'

/-- A component is in the cause's set. -/
def Cause.has (k : Comp) : Cause → Bool
  | .compStep set => set.get k
  | .polarize _ | .void => false

/-- A saturated sample on a component is reported (R91). -/
def saturationReport (k : Comp) (s : State) : State :=
  let o := s.win.own
  let urgent := s.withWin { s.win with own := { o with urgent := true } }
  if o.cause.has k || o.nextComps.get k then
    match o.state with
    | .asking | .waiting | .granted => urgent
    | .opened => if o.nextComps.get k then urgent else s
    | .deferred => handAsk urgent
    | .none => s
  else s

/-! ## The receiver's decision (R93 to R96) -/

/-- The latest end of the intervals, from a first one. -/
def latestEnd (e : NodeTime) (ps : List Protected) : NodeTime := ps.foldl (fun m p => latest m p.finish) e

/-- The earliest end of the entries. -/
def earliestEnd : List Entry → NodeTime
  | [] => 0
  | e :: es => es.foldl (fun m x => if later m x.finish then x.finish else m) e.finish

/-- A refusal of a peer's ASK (R95): the DEFER is handed over, and the window entered if the list has room. Where the DEFER
finds the window queue full and another DEFER gives way to it, the window of that lost DEFER is entered (R97) before the
list's room is tested for the refused window; the spec gives the two no order (DESIGN CHOICE, log entry 37). -/
def refuseAsk (w : Entry) (leadTick : Nat) (conflictEnd : NodeTime) (s : State) : State :=
  let s' := joinQueue (.defer w leadTick conflictEnd true false) s
  if s'.win.list.length < Config.listSize then enterWindow w s' else s'

/-- The own window overlaps the requested one while WAITING (R92). -/
def waitingOverlap (w : Entry) (o : OwnWindow) : Bool :=
  decide (o.state = .waiting) &&
    match o.start, o.finish with
    | some a, some b => w.overlaps a b
    | _, _ => false

/-- The decision on an ASK that is not ignored (R93 to R96). -/
def decideAsk (w : Entry) (leadTick : Nat) (s : State) : State :=
  let o := s.win.own
  if w.forced then enterWindow w (markOverlapped w s)
  else if waitingOverlap w o then
    if o.forced || decide (s.cfg.station < w.id.station) then refuseAsk w leadTick (o.finish.getD 0) s
    else enterWindow w (refuseOwn w.finish true s)
  else
    match s.win.protectedIntervals.filter w.overlapsProt with
    | p :: ps => refuseAsk w leadTick (latestEnd p.finish ps) s
    | [] =>
      if Config.listSize ≤ s.win.list.length then
        joinQueue (.defer w leadTick (earliestEnd s.win.list) false false) s
      else enterWindow w s

/-! ## Reports on the window queue's frames (R84, R87, R97) -/

/-- A frame of the window queue was sent. -/
def windowSent (f : WinFrame) (forced : Bool) (delay : Nat) (s : State) : State :=
  match f with
  | .ask _ _ _ _ => askSent forced delay s
  | .defer _ _ _ _ _ | .withdraw _ _ => s

/-- A frame of the window queue was dropped after its eighth failure (R87, R97). -/
def windowDropped (f : WinFrame) (s : State) : State :=
  match f with
  | .ask _ _ _ _ => refuseOwn s.reading false s
  | .defer _ _ _ _ _ => deferLost f s
  | .withdraw _ _ => s

/-- A frame that a collision removes in place of a failed attempt: a DEFER past its response deadline (R72), a WITHDRAW
whose window's start is reached (R73). -/
def removedByCollision (s : State) : WinFrame → Bool
  | .defer _ leadTick _ _ _ => decide (leadTick + Config.deferDeadline ≤ s.tick)
  | .withdraw _ start => s.reached start
  | .ask _ _ _ _ => false

/-! ## Commands -/

/-- The response end is reached in WAITING. -/
def responseDue (s : State) : Bool :=
  s.running && decide (s.win.own.state = .waiting) && s.win.own.responseEnd.any s.reached

/-- A new protected interval, marked if a window of the list or a held one overlaps it (R88). -/
def newProtected (ws : List Entry) (start finish : NodeTime) : Protected :=
  { start := start, finish := finish, mark := ws.any fun w => w.overlaps start finish }

/-- The intervals that become protected when the own window is granted: the window, and a POLARIZE window's counting
phase (R88). -/
def grantedIntervals (cfg : Settings) (o : OwnWindow) : List (NodeTime × NodeTime) :=
  let a := o.start.getD 0
  let b := o.finish.getD 0
  match o.cause with
  | .polarize _ => [(a, b), (b, plus b (cfg.count * Config.milli : Nat))]
  | .compStep _ | .void => [(a, b)]

/-- The windows that a new protected interval is compared with: the entries and the held windows but the own one (R88). -/
def foreignWindows (s : State) : List Entry := without (ownId s) (s.win.list ++ s.win.held)

/-- RESPONSE_END (R88). -/
def grant (s : State) : State :=
  let o := s.win.own
  let ws := foreignWindows s
  let intervals := grantedIntervals s.cfg o
  let prots := intervals.map fun i => newProtected ws i.1 i.2
  let forcedOver := ws.any fun w => w.forced && intervals.any fun i => w.overlaps i.1 i.2
  setFlagIf forcedOver .forcedInto
    (s.withWin { s.win with own := { o with state := .granted }, ownProt := prots.head?,
                            counting := s.win.counting ++ prots.tail })

/-- RESPONSE_END (R88). -/
def execResponseEnd (s : State) : Host.Outcome State Fault Refusal := .next (if responseDue s then grant s else s)

/-- A WITHDRAW that is pending and whose window's start is reached (R73). -/
def Queued.withdrawDue (s : State) (q : Queued) : Bool :=
  q.idleWithdraw && match q.frame with | .withdraw _ t => s.reached t | .ask _ _ _ _ | .defer _ _ _ _ _ => false

/-- The start is reached in GRANTED (R89). -/
def startDue (s : State) : Bool :=
  s.running && decide (s.win.own.state = .granted) && s.win.own.start.any s.reached

/-- The own window opens (R89): the Acquisition Unit is told. -/
def openWindow (s : State) : State :=
  let o := s.win.own
  match o.cause with
  | .compStep set =>
    compensationChange set
      ((s.withWin { s.win with own := { o with state := .opened, cause := .compStep (Triple.all false) } }).withAcq
        { s.acq with ownWin := some { start := o.start.getD 0, finish := o.finish.getD 0, mark := false, isOpen := true } })
  | .polarize _ => polarizeOn (o.finish.getD 0) (s.withWin { s.win with own := { o with state := .opened } })
  | .void => s.withWin { s.win with own := { o with state := .opened } }

/-- Pending WITHDRAWs of windows whose start is reached are removed (R73). -/
def removeWithdraws (s : State) : State :=
  if s.running then
    s.withLine { s.line with queue := s.line.queue.filter fun q => !q.withdrawDue s }
  else s

/-- WINDOW_START (R73, R89): the start of a withdrawn window, and of the own one. -/
def execWindowStart (s : State) : Host.Outcome State Fault Refusal :=
  .next (if startDue s then openWindow (removeWithdraws s) else removeWithdraws s)

/-- The end is reached in OPEN (R89). -/
def endDue (s : State) : Bool :=
  s.running && decide (s.win.own.state = .opened) && s.win.own.finish.any s.reached

/-- The own window's disturbed mark. -/
def ownMark (s : State) : Bool := s.win.ownProt.any (·.mark)

/-- The Acquisition Unit is told of the own window's end, and its mark passes on (R89, R92, R114). -/
def tellEnd (s : State) : State :=
  let finish := s.win.own.finish.getD 0
  match s.win.own.cause with
  | .polarize _ =>
    openGate finish (s.withWin { s.win with
      ownProt := none
      counting := s.win.counting.map fun p => if p.start = finish then { p with mark := p.mark || ownMark s } else p })
  | .compStep _ =>
    (s.withWin { s.win with ownProt := none }).withAcq
      { s.acq with ownWin := s.acq.ownWin.map fun w => { w with mark := ownMark s, isOpen := false } }
  | .void => s.withWin { s.win with ownProt := none }

/-- Some component is in a set. -/
def anyComp (t : Triple Bool) : Bool := t.x || t.y || t.z

/-- The record after its window's end: NONE, or asking for the next components (R89). -/
def afterEnd (s : State) : State :=
  let o := s.win.own
  if anyComp o.nextComps then
    handAsk (s.withWin { s.win with own := { o with
      cause := .compStep o.nextComps, nextComps := Triple.all false, attempts := 0 } })
  else s.withWin { s.win with own := o.ended }

/-- WINDOW_END (R89). -/
def execWindowEnd (s : State) : Host.Outcome State Fault Refusal :=
  .next (if endDue s then afterEnd (tellEnd s) else s)

/-- The wait end is reached in DEFERRED, at a tick after it was set (R86, R90). -/
def waitDue (s : State) : Bool :=
  s.running && decide (s.win.own.state = .deferred) && !s.win.waitHold && s.win.own.waitEnd.any s.reached

/-- WAIT_END (R90). -/
def execWaitEnd (s : State) : Host.Outcome State Fault Refusal := .next (if waitDue s then handAsk s else s)

/-- An entry's end is reached. -/
def Entry.over (s : State) (e : Entry) : Bool := s.reached e.finish

/-- ENTRY_END (R98, R100): the first entry whose end is reached leaves the list. -/
def execEntryEnd (s : State) : Host.Outcome State Fault Refusal :=
  .next (if s.running && s.win.list.any (Entry.over s) then
      s.withWin (freePlace s.reading { s.win with list := s.win.list.eraseP (Entry.over s) })
    else s)

/-- BLANK_ALL_END (R100). -/
def execBlankAllEnd (s : State) : Host.Outcome State Fault Refusal :=
  .next (if s.running && s.win.blankAllEnd.any s.reached then s.withWin { s.win with blankAllEnd := none } else s)

/-- HELD_WINDOW_EXPIRY (R100): the oldest held window whose end is reached is discarded. -/
def execHeldWindowExpiry (s : State) : Host.Outcome State Fault Refusal :=
  .next (if s.running then s.withWin { s.win with held := s.win.held.eraseP (Entry.over s) } else s)

/-- A pending DEFER whose response deadline is reached (R72). -/
def Queued.deferDue (s : State) (q : Queued) : Bool :=
  q.idleDefer && removedByCollision s q.frame

/-- DEFER_DEADLINE (R72): the oldest such DEFER is removed and reported removed. -/
def execDeferDeadline (s : State) : Host.Outcome State Fault Refusal :=
  .next (if s.running then
      match s.line.queue.find? (Queued.deferDue s) with
      | none => s
      | some q => deferLost q.frame (s.withLine { s.line with queue := s.line.queue.eraseP (Queued.deferDue s) })
    else s)

end Sys2Proof.Machine
end

