-- ==== Sys2Proof/Machine/Acquisition.lean ====
section
/-! DEFINITION. The Acquisition Unit's commands (06): TRIGGER_INSTANT, TRANSFER_BEGIN, START_COMPLETE, POLL,
POLL_COMPLETE, RESULT_ARRIVAL, CONVERSION_DEADLINE, SECOND_CLOSURE, PROBE_SCAN, ASK_INSTANT, COUNT_END. -/

namespace Sys2Proof.Machine

/-! ## Samples (R108 to R111) -/

/-- A sample's class (R108), with the value of a valid one. -/
inductive SampleClass where
  | blanked
  | missing
  | saturated
  | valid (v : Int)
  deriving DecidableEq, Repr

/-- An accumulation with one more sample classified (R109). -/
def Accum.add (a : Accum) : SampleClass → Accum
  | .blanked => { a with blanked := a.blanked + 1 }
  | .missing => { a with missing := a.missing + 1 }
  | .saturated => { a with saturated := a.saturated + 1 }
  | .valid v => { a with valid := a.valid + 1, sum := a.sum + v }

/-- A classified sample enters the accumulation of the second it serves, if that second is being gathered (R109,
R124). -/
def accumulate (c : Comp) (serves : Serves) (k : SampleClass) (s : State) : State :=
  match serves, s.acq.gathering with
  | .second n, some g =>
    if g.second = n then
      s.withAcq { s.acq with gathering := some { g with acc := g.acc.set c ((g.acc.get c).add k) } }
    else s
  | _, _ => s

/-- A saturated count (06, Terms). -/
def saturatedCount (r : Int) : Bool := decide (r = -8388608) || decide (r = 8388607)

/-- A count in near range (06, Terms). -/
def nearCount (r : Int) : Bool := decide (7340032 < r.natAbs)

/-- The value of a valid sample (R108). -/
def sampleValue (cfg : Settings) (c : Comp) (steps : Int) (r : Int) : Int :=
  steps * cfg.stepSize + roundHalfAway (r * (cfg.comps.get c).factor) 1000

/-- The class of a sample whose count has arrived (R108). -/
def classifyCount (cfg : Settings) (c : Comp) (smp : Sample) (r : Int) : SampleClass :=
  if smp.blanked || smp.changed then .blanked
  else if saturatedCount r then .saturated
  else .valid (sampleValue cfg c smp.steps r)

/-- The class of a sample whose result is missing (R108). -/
def classifyMissing (smp : Sample) : SampleClass := if smp.blanked || smp.changed then .blanked else .missing

/-- The direction of a count: the sign of r (R110). -/
def directionOf (r : Int) : Dir := if 0 ≤ r then .up else .down

/-- The component's steps stand at the limit in a direction (R110). -/
def atLimit (steps : Int) (d : Dir) : Bool :=
  match d with
  | .up => decide (32 ≤ steps)
  | .down => decide (steps ≤ -32)

/-- A near-range count (R110). -/
def nearRange (c : Comp) (d : Dir) (s : State) : State :=
  match s.acq.pendingDir.get c with
  | some _ => s
  | none =>
    if atLimit (s.acq.steps.get c) d then setFlag .compLimit s
    else compCause c (s.withAcq { s.acq with pendingDir := s.acq.pendingDir.set c (some d) })

/-- A count is tested by R110 and R111. -/
def Sample.tested (smp : Sample) : Bool :=
  !(smp.blankAll || smp.byCompStep || smp.changed) && decide (smp.serves ≠ .abandoned)

/-- The effects of a tested count: near range first, then saturation (R110, R111). -/
def testCount (c : Comp) (r : Int) (s : State) : State :=
  let s' := if nearCount r then nearRange c (directionOf r) s else s
  if saturatedCount r then saturationReport c (setFlag .saturated s') else s'

/-- A field count arrives (R108 to R111). -/
def takeCount (c : Comp) (smp : Sample) (r : Int) (s : State) : State :=
  accumulate c smp.serves (classifyCount s.cfg c smp r) (if smp.tested then testCount c r s else s)

/-! ## Probes (R116) -/

/-- A probe's reading that has arrived, or none for a missing one (R116). -/
def probeReading (j : Nat) (count : Option Nat) (s : State) : State :=
  let p := s.acq.probe j
  let good := count.any fun n => decide (1 ≤ n) && decide (n ≤ 65534)
  if good then
    s.withAcq { s.acq with probes := s.acq.probes.set j { status := .good, count := count, lastGood := some s.reading } }
  else
    setFlagIf (decide (p.status ≠ .failed)) .probeFail
      (s.withAcq { s.acq with probes := s.acq.probes.set j { p with status := .failed } })

/-! ## Results (R106) -/

/-- A conversion's result is missing, for its kind. -/
def missingResult (job : Job) (s : State) : State :=
  match job with
  | .field c smp => accumulate c smp.serves (classifyMissing smp) s
  | .probe j => probeReading j none s
  | .counter => completeReading .missing s

/-- A result arrives, for its kind, from the levels of the data input in the bytes read (R199). -/
def arrivedResult (job : Job) (levels : List Bool) (s : State) : State :=
  match job with
  | .field c smp => takeCount c smp (fieldCount levels) s
  | .probe j => probeReading j (some (beNat (takenBytes 2 levels))) s
  | .counter => completeReading (.frequency (beNat (takenBytes 4 levels))) s

/-- A converter's conversion ends at once, its result missing (R106). A new start ends a conversion whose own start is
still waiting or in progress, and which R106 does not yet call outstanding, in the same way (DESIGN CHOICE, log entry
36). -/
def endConversion (k : Converter) (s : State) : State :=
  match s.acq.conversions.get k with
  | none => s
  | some v => missingResult v.job (s.withAcq (s.acq.setConv k none))

/-- The transfer in progress, of a kind, whose bytes have had their time (R105, R199). -/
def transferDone (kind : TransferKind) (s : State) : Option Transfer :=
  match s.acq.port with
  | some (t, began) =>
    if s.running ∧ t.kind = kind ∧ began + Config.portByteTicks * transferBytes t.conv kind ≤ s.tick then some t else none
  | none => none

/-- The conversion that a transfer belongs to, while it is under way. -/
def conversionOf (t : Transfer) (a : Acquisition) : Option Conversion :=
  (a.conversions.get t.conv).filter fun v => decide (v.id = t.id)

/-! ## Trigger instants and closures (R107, R109, R114, R124) -/

/-- The second that a trigger instant belongs to (R107). -/
def secondOfInstant (x : Nat) : Nat := secondsOf (plus x 500000000)

/-- The closure instant of a second (R107). -/
def closureInstant (second : Nat) : Nat := plus (ofSeconds second) 540000000

/-- The second is later than the last closed one (R124). -/
def afterLastClosed (second : Nat) (last : Option Nat) : Bool :=
  match last with
  | none => true
  | some l => decide (0 < secondsDifference second l)

/-- The second being gathered once an instant of a second is reached: a collected instant begins one (R124). -/
def gatherAt (second : Nat) (a : Acquisition) : Option Gathering :=
  if afterLastClosed second a.lastClosed && decide (a.gathering = none) then
    some { second := second, acc := Triple.all Accum.empty }
  else a.gathering

/-- The instant is collected: its second is the one being gathered and is later than the last closed (R124). -/
def collects (second : Nat) (a : Acquisition) : Bool :=
  afterLastClosed second a.lastClosed && (gatherAt second a).any fun g => decide (g.second = second)

/-- One more instant collected (R109). -/
def Gathering.collect (g : Gathering) : Gathering :=
  { g with acc := g.acc.map fun a => { a with collected := a.collected + 1 } }

/-- The start of a component's conversion is requested for a trigger instant (R107). -/
def beginSample (answer : BlankAnswer) (serves : Serves) (c : Comp) (s : State) : State :=
  let s' := endConversion c.converter s
  s'.withAcq (s'.acq.begin c.converter
    (.field c { serves := serves, steps := s'.acq.steps.get c, blanked := answer.blanked, blankAll := answer.blankAll,
                byCompStep := answer.byCompStep, changed := false }) false 0)

/-- The next trigger instant is reached (R107). -/
def triggerDue (s : State) : Bool :=
  s.running && decide (s.cfg.role = .vector) && !s.acq.scanHold && s.reached s.acq.nextTrigger

/-- A trigger instant (R107, R124). -/
def trigger (s : State) : State :=
  let x := s.acq.nextTrigger
  let second := secondOfInstant x
  let answer := blankQuery x s
  let serves : Serves := if collects second s.acq then .second second else .uncollected
  let gathering :=
    if collects second s.acq then (gatherAt second s.acq).map Gathering.collect else s.acq.gathering
  let s' := s.withAcq { s.acq with nextTrigger := plus x 100000000, gathering := gathering }
  beginSample answer serves .z (beginSample answer serves .y (beginSample answer serves .x s'))

/-- TRIGGER_INSTANT (R107). -/
def execTriggerInstant (s : State) : Host.Outcome State Fault Refusal := .next (if triggerDue s then trigger s else s)

/-- The DISTURBED marker of a second (R114): one of its trigger instants lies inside the last own COMP_STEP window, whose
mark is set (read from the Window Unit while the window is OPEN). -/
def disturbedSecond (second : Nat) (s : State) : Bool :=
  s.acq.ownWin.any fun w =>
    (if w.isOpen then ownMark s else w.mark) &&
      (List.range 10).any fun i => within w.start w.finish (plus (ofSeconds second) (-450000000 + 100000000 * (i : Int)))

/-- The closure instant of the second being gathered is reached (R107). -/
def closureDue (s : State) : Bool :=
  s.running && decide (s.cfg.role = .vector) && s.acq.gathering.any fun g => s.reached (closureInstant g.second)

/-- A second closes (R107, R109, R129). -/
def closure (g : Gathering) (s : State) : State :=
  (closeSecond g.second (closureInstant g.second) g.acc s.acq.stepped (disturbedSecond g.second s) s).withAcq
    { s.acq with
      stepped := false
      lastClosed := some g.second
      gathering := some { second := (g.second + 1) % 4294967296, acc := Triple.all Accum.empty } }

/-- SECOND_CLOSURE (R109). -/
def execSecondClosure (s : State) : Host.Outcome State Fault Refusal :=
  .next (match s.acq.gathering with
    | some g => if closureDue s then closure g s else s
    | none => s)

/-! ## Probe scans and the scalar cycle (R115, R118, R120) -/

/-- The probe that a scan instant names by its place in the second (R115). -/
def probeOfInstant (x : Nat) : Nat := (x % Config.second - 125000000) / 250000000

/-- The next scan instant is reached (R115). -/
def scanDue (s : State) : Bool :=
  s.running && (decide (s.cfg.role = .vector) || decide (s.cfg.role = .scalar)) && !s.acq.scanHold &&
    s.reached s.acq.nextScan

/-- A probe scan (R115). -/
def probeScan (s : State) : State :=
  let x := s.acq.nextScan
  let s' := endConversion .tc (s.withAcq { s.acq with nextScan := plus x 250000000 })
  s'.withAcq (s'.acq.begin .tc (.probe (probeOfInstant x)) false 0)

/-- PROBE_SCAN (R115). -/
def execProbeScan (s : State) : Host.Outcome State Fault Refusal := .next (if scanDue s then probeScan s else s)

/-- The next ask instant is reached (R118). -/
def askDue (s : State) : Bool := s.running && decide (s.cfg.role = .scalar) && s.reached s.acq.nextAsk

/-- ASK_INSTANT (R118). -/
def execAskInstant (s : State) : Host.Outcome State Fault Refusal :=
  .next (if askDue s then
      polarizeCause (plus s.acq.nextAsk 500000000)
        (s.withAcq { s.acq with lastAsk := some s.acq.nextAsk,
                                nextAsk := plus s.acq.nextAsk (s.cfg.cycle * Config.second : Nat) })
    else s)

/-- Every counting phase whose end is reached leaves the protected intervals, one whose cycle was cut off too (R92, R119;
log entry 18). -/
def dropPhases (s : State) : State :=
  s.withWin { s.win with counting := s.win.counting.filter fun p => !s.reached p.finish }

/-- The count end of the measuring cycle: the gate closes, the cycle is READING, the counter's start is requested, its
conversion is outstanding from now, and the phase's mark is taken (R120). -/
def countEnd (openTime finish : NodeTime) (s : State) : State :=
  let s1 := endConversion .sc s
  let a := s1.acq.begin .sc .counter true (s.tick + Config.slowDeadline)
  s1.withAcq { a with
    countOut := false, measuring := none,
    reading := some { openTime := openTime, mark := phaseMark s finish } }

/-- The count end taken, if that of the measuring cycle is reached (R120). -/
def endCount (s : State) : State :=
  match s.acq.measuring with
  | some { stage := .counting openTime finish, .. } => if s.reached finish then countEnd openTime finish s else s
  | some { stage := .polarizing, .. } => s
  | none => s

/-- COUNT_END (R120): the count end of the measuring cycle, or the end of a phase whose cycle was cut off. -/
def execCountEnd (s : State) : Host.Outcome State Fault Refusal :=
  .next (if s.running then dropPhases (endCount s) else s)

/-! ## The converter port (R105, R106) -/

/-- TRANSFER_BEGIN (R105): the next transfer requested begins when the port is free. -/
def execTransferBegin (s : State) : Host.Outcome State Fault Refusal :=
  .next (match s.acq.port, s.acq.portQueue with
    | none, t :: ts => if s.running then s.withAcq { s.acq with port := some (t, s.tick), portQueue := ts } else s
    | _, _ => s)

/-- The deadline of a conversion that becomes outstanding now (R106). -/
def deadlineFor (job : Job) (tick : Nat) : Nat :=
  match job with
  | .field _ _ => tick + Config.fieldDeadline
  | .probe _ | .counter => tick + Config.slowDeadline

/-- A conversion whose start has ended (R106): outstanding, its deadline begun (a counter's began at the count end,
R120), its first poll due after 10,000 ticks. -/
def Conversion.started (tick : Nat) (v : Conversion) : Conversion :=
  { v with outstanding := true, deadline := if v.outstanding then v.deadline else deadlineFor v.job tick,
           nextPoll := some (tick + Config.pollTicks) }

/-- START_COMPLETE (R106). -/
def execStartComplete (s : State) : Host.Outcome State Fault Refusal :=
  .next (match transferDone .start s with
    | none => s
    | some t =>
      let a := { s.acq with port := none }
      match conversionOf t a with
      | none => s.withAcq a
      | some v => s.withAcq (a.setConv t.conv (some (v.started s.tick))))

/-- POLL (R106): a poll of an outstanding conversion is requested, and the next follows 10,000 ticks later. -/
def execPoll (conv : Converter) (s : State) : Host.Outcome State Fault Refusal :=
  .next (match s.acq.conversions.get conv with
    | none => s
    | some v =>
      match v.nextPoll with
      | none => s
      | some n =>
        if s.running ∧ v.outstanding ∧ v.readAsked = false ∧ n ≤ s.tick then
          s.withAcq ((s.acq.setConv conv (some { v with nextPoll := some (n + Config.pollTicks) })).request
            { conv := conv, kind := .poll, probe := 0, id := v.id })
        else s)

/-- POLL_COMPLETE (R106): a status with bit 0 set requests the read (R199). -/
def execPollComplete (levels : List Bool) (s : State) : Host.Outcome State Fault Refusal :=
  .next (match transferDone .poll s with
    | none => s
    | some t =>
      let a := { s.acq with port := none }
      match conversionOf t a with
      | none => s.withAcq a
      | some v =>
        if statusReady levels ∧ v.outstanding ∧ v.readAsked = false then
          s.withAcq ((a.setConv t.conv (some { v with readAsked := true })).request
            { conv := t.conv, kind := .read, probe := 0, id := v.id })
        else s.withAcq a)

/-- RESULT_ARRIVAL (R106): a read ends; the result is taken for its kind, or discarded if its conversion has ended. -/
def execResultArrival (levels : List Bool) (s : State) : Host.Outcome State Fault Refusal :=
  .next (match transferDone .read s with
    | none => s
    | some t =>
      let a := { s.acq with port := none }
      match conversionOf t a with
      | none => s.withAcq a
      | some v => arrivedResult v.job levels (s.withAcq (a.setConv t.conv none)))

/-- CONVERSION_DEADLINE (R106). -/
def execConversionDeadline (conv : Converter) (s : State) : Host.Outcome State Fault Refusal :=
  .next (match s.acq.conversions.get conv with
    | none => s
    | some v => if s.running ∧ v.outstanding ∧ v.deadline ≤ s.tick then endConversion conv s else s)

end Sys2Proof.Machine
end

