-- ==== Sys2Proof/Machine/Agreement.lean ====
section
/-! DEFINITION. The Agreement Unit (02): the measurement of a committed MARK (2.3, 2.4), the round end (2.5), and the
commands ROUND_END and MARK_INSTANT; with the Line Unit's counting of round ends (R53 to R57). -/

namespace Sys2Proof.Machine

/-! ## Measuring a peer (R21 to R24) -/

/-- The measurement of a MARK's time against a capture (R22). -/
def measurement (receiveDelay : Nat) (stepSum : Int) (time : NodeTime) (cap : Capture) : Int :=
  clampOffset (diff time cap.reading + receiveDelay - towardZero cap.slew Config.suPerNs - stepSum)

/-- A measured row's state (R24). -/
def RowState.measured : RowState → RowState
  | .empty | .live | .stale => .live
  | .excluded => .excluded

/-- A measurement written to a row (R24). -/
def Row.measure (offset : Int) (peer : Timebase) (capture : NodeTime) (r : Row) : Row :=
  { r with state := r.state.measured, offset := offset, peer := peer, fresh := true, age := 0,
           lastCapture := some capture }

/-- A function applied to the row of a station (R23). -/
def updateRow (station : Nat) (f : Row → Row) (rows : List Row) : List Row :=
  rows.map fun r => if r.station = station then f r else r

/-- The time field of a MARK's payload (R195). -/
def markTime (payload : List Byte) : Nat := natAt 0 4 payload * Config.second + natAt 4 4 payload

/-- A committed MARK at the Agreement Unit (R21 to R24). -/
def takeMark (station : Nat) (payload : List Byte) (cap : Capture) (s : State) : State :=
  if s.agr.roundCrossed ∨ payload.length ≠ 9 then s
  else
    match Timebase.ofCode (natAt 8 1 payload) with
    | none => s
    | some peer =>
      s.withAgr { s.agr with
        rows := updateRow station
          (Row.measure (measurement s.cfg.receiveDelay s.agr.stepSum (markTime payload) cap) peer cap.reading)
          s.agr.rows }

/-! ## Members, tiers and candidates (R26, R27) -/

/-- The tier of a timebase state (R27). -/
def Timebase.tier : Timebase → Tier
  | .referenced => .referenced
  | .agreed | .holdover => .settled
  | .free => .free

/-- The row counts as fresh at a round end: fresh, and captured not more than P before it (R26). -/
def Row.freshAt (period : Nat) (roundEnd : NodeTime) (r : Row) : Bool :=
  r.fresh && r.lastCapture.any fun c => decide (diff roundEnd c ≤ (period : Int))

/-- The row is a member of a round end (R26). -/
def Row.member (period : Nat) (roundEnd : NodeTime) (r : Row) : Bool :=
  r.freshAt period roundEnd && decide (r.state = .live)

/-- The highest-ranked tier of the members' states (R27). -/
def chosenTier (tiers : List Tier) : Tier :=
  if .referenced ∈ tiers then .referenced else if .settled ∈ tiers then .settled else .free

/-- A candidate: its station and its offset (R27). -/
structure Candidate where
  station : Nat
  offset : Int
  deriving DecidableEq, Repr

/-- The order of the candidates: by offset, equal offsets by station (R30). -/
def Candidate.before (a b : Candidate) : Bool :=
  decide (a.offset < b.offset) || (decide (a.offset = b.offset) && decide (a.station ≤ b.station))

/-- A candidate placed in order (R30 stage 1). -/
def insertCandidate (c : Candidate) : List Candidate → List Candidate
  | [] => [c]
  | d :: ds => if c.before d then c :: d :: ds else d :: insertCandidate c ds

/-- The candidates in order (R30 stage 1). -/
def sortCandidates (cs : List Candidate) : List Candidate := cs.foldr insertCandidate []

/-- What a round end has found: the tier, the candidates in order, and whether the node is one of them. -/
structure Round where
  tier : Tier
  sorted : List Candidate
  self : Bool
  deriving DecidableEq, Repr

/-- The peer candidates of a tier (R27). -/
def peerCandidates (tier : Tier) (members : List Row) : List Candidate :=
  (members.filter fun r => decide (r.peer.tier = tier)).map fun r => { station := r.station, offset := r.offset }

/-- The members, the tier and the candidates of a round end (R26, R27, R30 stage 1). -/
def findRound (cfg : Settings) (own : Timebase) (roundEnd : NodeTime) (rows : List Row) : Round :=
  let members := rows.filter (Row.member cfg.periodNs roundEnd)
  let tier := chosenTier (own.tier :: members.map fun r => r.peer.tier)
  let self := decide (own.tier = tier)
  { tier := tier, self := self,
    sorted := sortCandidates
      ((if self then [{ station := cfg.station, offset := 0 }] else []) ++ peerCandidates tier members) }

/-! ## Midpoint and spread (R30) -/

/-- The candidates dropped from each end (R30 stage 2). -/
def dropCount (n : Nat) : Nat := (n - 1) / 3

/-- The candidates that remain (R30 stage 2). -/
def kept (sorted : List Candidate) : List Candidate :=
  (sorted.drop (dropCount sorted.length)).take (sorted.length - 2 * dropCount sorted.length)

/-- The smallest offset that remains (R30 stage 3). -/
def lowest (sorted : List Candidate) : Int := ((kept sorted).head?.map (·.offset)).getD 0

/-- The largest offset that remains (R30 stage 3). -/
def highest (sorted : List Candidate) : Int := ((kept sorted).getLast?.map (·.offset)).getD 0

/-- The midpoint c (R30 stage 4). -/
def midpoint (sorted : List Candidate) : Int := towardZero (lowest sorted + highest sorted) 2

/-- The spread (R30 stage 5). -/
def spread (sorted : List Candidate) : Int := highest sorted - lowest sorted

/-- The node itself is the one candidate (R29). -/
def Round.alone (r : Round) : Bool := r.self && decide (r.sorted.length = 1)

/-- The request a round end hands the clock (R28, R29, R31). -/
def Round.request (r : Round) (own : Timebase) : Option Request :=
  if own = .referenced then none
  else if r.alone then (if own = .agreed then some .holdover else none)
  else some (.round (midpoint r.sorted))

/-- The summary of a round end (R28, R29, R32). -/
def Round.summary (r : Round) : Summary :=
  { tier := r.tier, count := r.sorted.length, spread := if r.alone then 0 else spread r.sorted }

/-! ## Discard, countdown, ageing (R33 to R35) -/

/-- The row's station is a candidate (R33). -/
def Round.candidate (r : Round) (station : Nat) : Bool := r.sorted.any fun c => decide (c.station = station)

/-- The candidate of a station was dropped (R30 stage 2). -/
def Round.dropped (r : Round) (station : Nat) : Bool :=
  r.candidate station && !(kept r.sorted).any fun c => decide (c.station = station)

/-- The discard stage on a row (R33). -/
def Row.discard (round : Round) (threshold : Nat) (r : Row) : Row :=
  if round.candidate r.station then
    if round.dropped r.station && decide (threshold < (r.offset - midpoint round.sorted).natAbs) then
      if 8 ≤ r.run + 1 then { r with state := .excluded, excludedFor := 32, run := 0 } else { r with run := r.run + 1 }
    else { r with run := 0 }
  else r

/-- The countdown of a row that was EXCLUDED when the round end was taken (R34). -/
def Row.countDown (r : Row) : Row :=
  if r.excludedFor - 1 = 0 then { r with excludedFor := 0, state := .live }
  else { r with excludedFor := r.excludedFor - 1 }

/-- The ageing of a row (R35); an EMPTY row does not age (R25). -/
def Row.grow (fresh : Bool) (r : Row) : Row :=
  if r.state = .empty ∨ fresh then r
  else
    let age := min (r.age + 1) 16
    if age = 16 then Row.emptyOf r.station
    else if r.state = .live ∧ 3 ≤ age then { r with age := age, state := .stale }
    else { r with age := age }

/-- A row at the end of a round end (R33 to R35). -/
def Row.endRound (round : Round) (cfg : Settings) (roundEnd : NodeTime) (r : Row) : Row :=
  let r' := if r.state = .excluded then r.countDown else r.discard round cfg.exclusion
  { r'.grow (r.freshAt cfg.periodNs roundEnd) with fresh := false }

/-- The discard stage excludes the row (R33). -/
def Row.becomesExcluded (round : Round) (cfg : Settings) (r : Row) : Bool :=
  decide (r.state ≠ .excluded) && decide ((r.discard round cfg.exclusion).state = .excluded)

/-! ## Round ends counted by the Line Unit (R53 to R57) -/

/-- A line state with its round count, after a round end (R54, R56). -/
def countRound : LineState × Nat → LineState × Nat
  | (.silent, n) => if 2 ≤ n + 1 then (.active, 0) else (.silent, n + 1)
  | (.muted, n) => if 16 ≤ n + 1 then (.silent, 0) else (.muted, n + 1)
  | (.active, n) => (.active, n)
  | (.stuck, n) => (.stuck, n)

/-- A round end handed to the Line Unit; in STUCK it counts for the return state (R57). -/
def LineUnit.countRound (l : LineUnit) : LineUnit :=
  if l.state = .stuck then { l with ret := l.ret.map Machine.countRound }
  else
    { l with state := (Machine.countRound (l.state, l.roundCount)).1,
             roundCount := (Machine.countRound (l.state, l.roundCount)).2 }

/-! ## Commands -/

/-- The next round end is reached (R17). -/
def roundDue (s : State) : Bool := s.running && s.reached s.agr.nextRound

/-- The round end's work on the Agreement Unit and the Line Unit, before its request (R17, R21, R32 to R35, R53). -/
def closeRound (round : Round) (s : State) : State :=
  let roundEnd := s.agr.nextRound
  let s' := s.withAgr { s.agr with
    rows := s.agr.rows.map (Row.endRound round s.cfg roundEnd)
    summary := round.summary
    lastRound := some roundEnd
    nextRound := plus roundEnd (s.cfg.periodNs : Nat)
    roundCrossed := true }
  setFlagIf (s.agr.rows.any (Row.becomesExcluded round s.cfg)) .peerExcluded
    (setFlagIf (decide ((s.cfg.spreadLimit : Int) < round.summary.spread)) .spreadHigh
      (s'.withLine s'.line.countRound))

/-- A round end (R17, R26 to R35): its request reaches the clock after the round end is complete (R31). -/
def roundEnd (s : State) : State :=
  let round := findRound s.cfg s.clock.state s.agr.nextRound s.agr.rows
  let s' := closeRound round s
  match round.request s.clock.state with
  | none => s'
  | some q => takeRequest q s'

/-- ROUND_END (R17). -/
def execRoundEnd (s : State) : Host.Outcome State Fault Refusal := .next (if roundDue s then roundEnd s else s)

/-- The next MARK instant is reached (R19). -/
def markDue (s : State) : Bool := s.running && s.reached s.agr.nextMark

/-- A MARK is handed to its slot, and the MARK timer goes on (R19, R70). -/
def handMark (s : State) : State :=
  (s.withAgr { s.agr with lastMark := some s.agr.nextMark,
                          nextMark := plus s.agr.nextMark (s.cfg.periodNs : Nat) }).withLine
    { s.line with markSlot := s.line.markSlot.handOver (s.line.attempting .mark) }

/-- MARK_INSTANT (R19). -/
def execMarkInstant (s : State) : Host.Outcome State Fault Refusal := .next (if markDue s then handMark s else s)

end Sys2Proof.Machine
end

