-- ==== Sys2Proof/Machine/Reference.lean ====
section
/-! DEFINITION. The Reference Input's commands (03): PULSE, ABSENCE_DEADLINE, LABEL_CHARACTER, LABEL_GAP and
LABEL_EXPIRY. -/

namespace Sys2Proof.Machine

/-- The pulse error e of a capture (R40). -/
def pulseError (t : Nat) : Int :=
  if t % Config.second < 500000000 then ((t % Config.second : Nat) : Int)
  else ((t % Config.second : Nat) : Int) - (Config.second : Int)

/-- The nearest second of a capture (R40). -/
def pulseSecond (t : Nat) : Nat :=
  if t % Config.second < 500000000 then secondsOf t else (secondsOf t + 1) % 4294967296

/-- The pulse is early (R40). -/
def isEarly (t : Nat) (last : Option NodeTime) : Bool := last.any fun l => decide (diff t l < 500000000)

/-- The seconds count a pulse is labelled with, if the held label is paired with it (R47). -/
def pairedSecond (t : Nat) (label : Option Label) : Option Nat :=
  match label with
  | none => none
  | some l =>
    if 100000000 ≤ diff t l.arrival ∧ diff t l.arrival ≤ 950000000 then some l.count else none

/-- The label difference of a pulse, 0 when it is not labelled (R42). -/
def labelDifference (labelled : Option Nat) (second : Nat) : Int :=
  match labelled with
  | none => 0
  | some n => secondsDifference n second

/-- The absence deadline after an instant (R40, R44). -/
def deadlineAfter (t : Nat) : Nat := plus t 1200000000

/-- What every pulse leaves: its capture, the deadline, and no held label (R40, R47). -/
def RefInput.met (t : Nat) (r : RefInput) : RefInput :=
  { r with label := none, lastPulse := some t, deadline := some (deadlineAfter t) }

/-! ## Acquisition (R41, R42) -/

/-- The acquisition count after an acquisition pulse, by the first row of R41's table that holds. The rows are taken as
they stand right after a loss too, where R45 says that the first pulse that is not early starts a run of 1: an early
pulse starts a run of 1 by R41's second row, and a consistent pulse behind it counts 2 (DESIGN CHOICE, log entry 33). -/
def countAfter (early : Bool) (e : Int) (r : RefInput) : Nat :=
  match r.prevError with
  | none => 1
  | some p => if early ∨ 1000000 < (e - p).natAbs then 1 else r.acqCount + 1

/-- Acquisition completes (R42). -/
def acquire (c : Int) (s : State) : State :=
  setFlag .refAcquired (takeRequest (.acquisition c)
    (s.withRef { s.ref with acqCount := 0, prevError := none, missCount := 0, mismatch := none }))

/-- An acquisition pulse (R41, R42). -/
def acquisitionPulse (early : Bool) (e d : Int) (s : State) : State :=
  if 4 ≤ countAfter early e s.ref then acquire (d * (Config.second : Int) - e) s
  else s.withRef { s.ref with acqCount := countAfter early e s.ref, prevError := some e }

/-! ## Following (R43, R45, R48, R49) -/

/-- A reject or a miss; the third is the loss (R43, R44, R45). -/
def countMiss (s : State) : State :=
  if 3 ≤ s.ref.missCount + 1 then
    takeRequest .loss
      (s.withRef { s.ref with missCount := 0, acqCount := 0, prevError := none, mismatch := none })
  else s.withRef { s.ref with missCount := s.ref.missCount + 1 }

/-- An accepted pulse: the label check, and the tracking correction or the label step (R43, R48, R49). -/
def acceptPulse (e : Int) (labelled : Option Nat) (second : Nat) (s : State) : State :=
  let s' := s.withRef { s.ref with missCount := 0 }
  let d := labelDifference labelled second
  match labelled with
  | none => takeRequest (.tracking (-e)) s'
  | some _ =>
    if d = 0 then takeRequest (.tracking (-e)) (s'.withRef { s'.ref with mismatch := none })
    else if s.ref.mismatch = some d then
      setFlag .labelStep (takeRequest (.labelStep (d * (Config.second : Int)))
        (s'.withRef { s'.ref with mismatch := none }))
    else takeRequest (.tracking (-e)) (s'.withRef { s'.ref with mismatch := some d })

/-- The pulse is rejected in REFERENCED (R43). -/
def rejectsPulse (early : Bool) (e : Int) : Bool := early || decide (100000 < e.natAbs)

/-- A pulse (R40 to R43, R47). The capture, the deadline and the label are settled first, so that a step moves them. -/
def takePulse (s : State) : State :=
  let t := s.reading
  let e := pulseError t
  let early := isEarly t s.ref.lastPulse
  let labelled := pairedSecond t s.ref.label
  let s' := s.withRef (s.ref.met t)
  if s.clock.state = .referenced then
    if rejectsPulse early e then countMiss s' else acceptPulse e labelled (pulseSecond t) s'
  else acquisitionPulse early e (labelDifference labelled (pulseSecond t)) s'

/-- PULSE (R40). -/
def execPulse (s : State) : Host.Outcome State Fault Refusal := .next (if s.running then takePulse s else s)

/-- The absence deadline is reached (R44). -/
def absenceDue (s : State) : Bool := s.running && s.ref.deadline.any s.reached

/-- The effect of the absence deadline (R44). -/
def absence (s : State) : State :=
  if s.clock.state = .referenced then
    countMiss (s.withRef { s.ref with deadline := s.ref.deadline.map deadlineAfter })
  else s.withRef { s.ref with acqCount := 0, prevError := none, deadline := none }

/-- ABSENCE_DEADLINE (R44). -/
def execAbsenceDeadline (s : State) : Host.Outcome State Fault Refusal := .next (if absenceDue s then absence s else s)

/-! ## The label (R46, R47) -/

/-- More than 5 ms have passed since the end of the last character of a message (R46). -/
def gapPassed (reading : Nat) (r : RefInput) : Bool :=
  match r.labelRx with
  | .waiting => false
  | .assembling _ lastEnd => decide (5000000 < diff reading lastEnd)

/-- The label input at a tick, its pin low or high and the reading at the tick's start (R46). A falling edge outside a
character begins one, and the gap before it is tested there: a message whose gap is too long is abandoned, and the
character is examined as a possible lead. -/
def RefInput.labelTick (low : Bool) (reading : Nat) (r : RefInput) : RefInput :=
  if low && !r.pinLow && !r.charBegun then
    { r with pinLow := low, charBegun := true, labelRx := if gapPassed reading r then .waiting else r.labelRx }
  else { r with pinLow := low }

/-- The label input and the held label after a character without framing error (R46). -/
def RefInput.character (c : Byte) (reading : Nat) (r : RefInput) : RefInput :=
  match r.labelRx with
  | .waiting => if c = labelLead then { r with labelRx := .assembling [c] reading } else r
  | .assembling chars _ =>
    let msg := chars ++ [c]
    if msg.length < 6 then { r with labelRx := .assembling msg reading }
    else if labelSumZero msg then
      { r with labelRx := .waiting, label := some { count := natAt 1 4 msg, arrival := reading } }
    else { r with labelRx := .waiting }

/-- The label input at the end of a character (R46): one with its stop bit low is discarded and abandons the message. -/
def RefInput.characterEnds (c : Byte) (stopLow : Bool) (reading : Nat) (r : RefInput) : RefInput :=
  let r' := { r with charBegun := false }
  if stopLow then { r' with labelRx := .waiting } else r'.character c reading

/-- LABEL_CHARACTER (R46): the end of a character that has begun. -/
def execLabelCharacter (char : Byte) (stopLow : Bool) (s : State) : Host.Outcome State Fault Refusal :=
  .next (if s.running ∧ s.ref.charBegun then s.withRef (s.ref.characterEnds char stopLow s.reading) else s)

/-- More than 5 ms have passed since the end of the last character of a message, and the next has not begun (R46). -/
def gapDue (s : State) : Bool := s.running && !s.ref.charBegun && gapPassed s.reading s.ref

/-- LABEL_GAP (R46): the message is abandoned. -/
def execLabelGap (s : State) : Host.Outcome State Fault Refusal :=
  .next (if gapDue s then s.withRef { s.ref with labelRx := .waiting } else s)

/-- The reading is later than the held label's arrival plus 950 ms (R47). -/
def expiryDue (s : State) : Bool :=
  s.running && s.ref.label.any fun l => later s.reading (plus l.arrival 950000000)

/-- LABEL_EXPIRY (R47): the label is dropped. -/
def execLabelExpiry (s : State) : Host.Outcome State Fault Refusal :=
  .next (if expiryDue s then s.withRef { s.ref with label := none } else s)

end Sys2Proof.Machine
end

