-- ==== Sys2Proof/Machine/LineUnit.lean ====
section
/-! DEFINITION. The Line Unit (04): the tick of the line, the receiver, receptions and their delivery (4.3), and attempts,
collisions and back-off (4.4); with the CLEAR (9.3), the RECALL (8.4) and the STATE's gathering (9.4). -/

namespace Sys2Proof.Machine

/-! ## What the node drives (R52, R63, R64, R66) -/

/-- Whether a bit of a character (0 the start bit, 9 the stop bit) holds the line active (R52). -/
def charActive (c : Byte) (bit : Nat) : Bool :=
  if bit = 0 then true else if bit ≤ 8 then !c.getLsbD (bit - 1) else false

/-- The characters of an attempt that are fixed so far (R58). -/
def Attempt.chars (cfg : Settings) (a : Attempt) : List Byte := sentChars cfg.station cfg.role a.kind a.length a.payload

/-- What an attempt drives in the next tick. -/
def Attempt.drives (cfg : Settings) (a : Attempt) : Bool :=
  a.lead.isSome &&
    match (a.chars cfg)[a.ticks / Config.charTicks]? with
    | some c => charActive c (a.ticks % Config.charTicks / Config.bitTicks)
    | none => false

/-- Whether the node drives the line active in the next tick: a jam, or its attempt (R52, R66). -/
def LineUnit.drives (cfg : Settings) (l : LineUnit) : Bool :=
  (l.jam.any fun n => decide (0 < n)) || l.attempt.any (Attempt.drives cfg)

/-- The delay of the own ASK, ms (R78): from the lead capture as it now stands. -/
def askDelay (s : State) : Nat :=
  match s.win.own.cause with
  | .polarize t =>
    (clampTo 80 5000 (roundUp (diff t (s.win.leadCap.getD s.reading)) Config.milli)).toNat
  | .compStep _ | .void => 80

/-- The defer-for of a DEFER, ms (R95, R96): from the lead capture as it now stands. -/
def deferFor (conflictEnd : NodeTime) (guarded : Bool) (s : State) : Nat :=
  let finish := if guarded then plus conflictEnd (Config.guardNs : Nat) else conflictEnd
  (clampTo 0 60000 (roundUp (diff finish (s.win.leadCap.getD s.reading)) Config.milli)).toNat

/-- The frame of the window queue that is in the attempt. -/
def LineUnit.windowFrame (l : LineUnit) : Option WinFrame := (l.queue.find? (·.inAttempt)).map (·.frame)

/-- The character that begins with the next tick of an attempt (R65: no idle time between characters). -/
def Attempt.atChar (i : Nat) (a : Attempt) : Bool := decide (a.ticks = i * Config.charTicks)

/-- The fields that the attempt serializes from this instant on (R20, R63). -/
def Attempt.serialize (s : State) (a : Attempt) : Attempt :=
  match a.item with
  | .mark =>
    if a.atChar 4 then
      let t := plus ((a.lead.map (·.reading)).getD s.reading) s.agr.stepSum
      { a with payload := leBytes 4 (t / Config.second : Nat) ++ leBytes 4 (t % Config.second : Nat) }
    else if a.atChar 12 then { a with payload := a.payload ++ [BitVec.ofNat 8 s.clock.state.code] }
    else a
  | .window =>
    match s.line.windowFrame with
    | some (.ask _ _ duration affect) =>
      if a.atChar 7 then
        { a with delay := askDelay s,
                 payload := a.payload ++ leBytes 2 (askDelay s) ++ leBytes 2 duration ++ leBytes 2 affect.toNat }
      else a
    | some (.defer _ _ e g _) =>
      if a.atChar 5 then { a with payload := a.payload ++ leBytes 2 (deferFor e g s) } else a
    | some (.withdraw _ _) | none => a
  | .state | .bank _ | .reply _ => a

/-- The attempt at a tick, once its lead is on the line. -/
def Attempt.ready (s : State) (a : Attempt) : Attempt := if a.lead.isSome then a.serialize s else a

/-! ## The tick of the line (R52, R57, R66, R67) -/

/-- A character one tick on, the line at a level (R52): a bit is taken at the middle of its bit time. -/
def CharRx.take (active : Bool) (c : CharRx) : CharRx :=
  let n := c.age + 1
  { age := n
    bits := if 30 ≤ n ∧ n ≤ 170 ∧ (n - 30) % Config.bitTicks = 0 ∧ active = false then
        c.bits ||| (1#8 <<< ((n - 30) / Config.bitTicks))
      else c.bits
    stopLow := if n = 190 then active else c.stopLow }

/-- A character begun at a falling edge. -/
def CharRx.begun (age : Nat) : CharRx := { age := age, bits := 0#8, stopLow := false }

/-- A character joins the reception in progress, unless the reception is complete or spoilt (R61). -/
def Reception.takeChar (c : CharRx) (r : Reception) : Reception :=
  if r.framing || frameComplete r.chars then r
  else if c.stopLow then { r with framing := true }
  else { r with chars := r.chars ++ [c.bits] }

/-- The receiver at one tick, the line at a level (R52). A character ends after its ten bits, or at a falling edge that
follows the middle of its stop bit (log entry 13). -/
def LineUnit.sample (active : Bool) (l : LineUnit) : LineUnit :=
  match l.charRx with
  | none =>
    { l with level := active, idleRun := if active then 0 else l.idleRun + 1,
             charRx := if active && !l.level then some (CharRx.begun 1) else none }
  | some c =>
    if active && !l.level && decide (190 ≤ c.age) then
      { l with level := active, idleRun := 0, charRx := some (CharRx.begun 1),
               reception := l.reception.map (Reception.takeChar c) }
    else if Config.charTicks ≤ c.age + 1 then
      { l with level := active, idleRun := 0, charRx := none,
               reception := l.reception.map (Reception.takeChar (c.take active)) }
    else { l with level := active, idleRun := 0, charRx := some (c.take active) }

/-- The counts of ticks of the Line Unit (R57, R66, R67): the stuck timer, the jam, the back-off while READY, and the
ticks of the attempt. -/
def LineUnit.count (l : LineUnit) : LineUnit :=
  { l with
    stuckTimer := if Config.startGap ≤ l.idleRun then 0 else l.stuckTimer + 1
    jam := l.jam.map (· - 1)
    backoff := if l.ready then l.backoff.map (· - 1) else l.backoff
    attempt := l.attempt.map fun a => if a.lead.isSome then { a with ticks := a.ticks + 1 } else a }

/-- The line at one tick, another station driving it active or not. -/
def lineTick (others : Bool) (s : State) : LineUnit :=
  let l := { s.line with attempt := s.line.attempt.map (Attempt.ready s) }
  (l.sample (l.drives s.cfg || others)).count

/-- The counts of the supply and of the reset pin (R180, R181). -/
def Loader.tick (pins : TickPins) (l : Loader) : Loader :=
  { l with
    goodTicks := if l.powerOn then (if pins.supplyGood then l.goodTicks + 1 else 0) else l.goodTicks
    lowCount := if pins.resetHigh then 0 else min (l.lowCount + 1) Config.pinTicks
    pinHigh := pins.resetHigh }

/-- The clock, the line and the label input at one tick of a started node. -/
def runTick (pins : TickPins) (s : State) : State :=
  { s with
    line := lineTick pins.lineActive s
    clock := s.clock.advance
    ref := s.ref.labelTick pins.labelLow s.reading
    win := { s.win with waitHold := false }
    acq := { s.acq with scanHold := false } }

/-- OSCILLATOR_TICK (R3): every count of ticks, and once the Node Clock is started its advance. -/
def execOscillatorTick (pins : TickPins) (s : State) : Host.Outcome State Fault Refusal :=
  let s' := if s.running then runTick pins s else s
  .next { s' with tick := s.tick + 1, loader := s.loader.tick pins }

/-! ## The receiver (R60, R61) -/

/-- An attempt whose lead is not yet on the line. -/
def LineUnit.leading (l : LineUnit) : Bool := l.attempt.any fun a => decide (a.lead = none)

/-- The capture at an edge: the reading and the remaining slew (R1). -/
def State.capture (s : State) : Capture := { reading := s.reading, slew := s.clock.slew }

/-- The Line Unit at a lead edge (R60): the reception begins, and an attempt begins its lead with it. -/
def LineUnit.lead (cap : Capture) (tick : Nat) (l : LineUnit) : LineUnit :=
  { l with
    ready := false, idleRun := 0, level := true, charRx := some (CharRx.begun 0)
    reception := some { capture := cap, leadTick := tick, own := l.leading, chars := [], framing := false }
    attempt := l.attempt.map fun a => if a.lead = none then { a with lead := some cap, ticks := 0 } else a }

/-- The lead edge with its announcement to the Agreement Unit and the Window Unit (R21, R60). -/
def leadEdge (s : State) : State :=
  { s with
    line := s.line.lead s.capture s.tick
    agr := { s.agr with stepSum := 0, roundCrossed := false }
    win := { s.win with leadCap := some s.reading } }

/-- LEAD_EDGE (R60): a falling edge in READY. -/
def execLeadEdge (s : State) : Host.Outcome State Fault Refusal :=
  .next (if s.running ∧ s.line.ready then leadEdge s else s)

/-- The receiver is HUNTING, and an idle run of 600 ticks has passed, all of it after the last truncation (R60, R61). -/
def readyDue (s : State) : Bool :=
  s.running && !s.line.ready && decide (s.line.reception = none) && decide (Config.startGap ≤ s.line.idleRun) &&
    decide (s.line.readyFrom ≤ s.tick)

/-- RECEIVER_READY (R60). -/
def execReceiverReady (s : State) : Host.Outcome State Fault Refusal :=
  .next (if readyDue s then s.withLine { s.line with ready := true } else s)

/-- The first character is not the lead (R61). -/
def wrongLead (chars : List Byte) : Bool :=
  match chars with
  | [] => false
  | c :: _ => decide (c ≠ leadByte)

/-- The length byte has come and is greater than 200 (R61). -/
def overlong (chars : List Byte) : Bool := decide (4 ≤ chars.length) && decide (200 < lengthOf chars)

/-- A reason of R61 to truncate the reception. -/
def Reception.truncated (idleRun : Nat) (r : Reception) : Bool :=
  r.framing || wrongLead r.chars || overlong r.chars ||
    (decide (Config.truncationGap < idleRun) && !frameComplete r.chars)

/-- The reception ends, and the receiver is HUNTING (R61). -/
def endReception (s : State) : State := s.withLine { s.line with reception := none, ready := false }

/-- A reception that is not of this node's own attempt is truncated (R61; of its own, R66). -/
def truncationDue (s : State) : Bool :=
  s.running && s.line.reception.any fun r => !r.own && r.truncated s.line.idleRun

/-- A truncation (R61): the reception ends, and the receiver stays HUNTING until 600 idle ticks have passed after it. -/
def truncate (s : State) : State :=
  s.withLine { s.line with reception := none, ready := false, readyFrom := s.tick + Config.startGap }

/-- RECEPTION_TRUNCATED (R61). -/
def execReceptionTruncated (s : State) : Host.Outcome State Fault Refusal :=
  .next (if truncationDue s then truncate s else s)

/-- The reception holds a whole frame (R58, R61). -/
def Reception.whole (r : Reception) : Bool :=
  !r.framing && !wrongLead r.chars && !overlong r.chars && frameComplete r.chars

/-- A whole frame whose check fails (R61). -/
def checkFailDue (s : State) : Bool :=
  s.running && s.line.reception.any fun r => !r.own && r.whole && !checkPasses r.chars

/-- CHECK_FAILED (R61). -/
def execCheckFailed (s : State) : Host.Outcome State Fault Refusal :=
  .next (if checkFailDue s then endReception s else s)

/-! ## Commit and delivery (R55, R62) -/

/-- A duplicate makes the line state MUTED, or the return state of STUCK (R55). -/
def LineUnit.muted (l : LineUnit) : LineUnit :=
  if l.state = .stuck then { l with ret := some (.muted, 0) } else { l with state := .muted, roundCount := 0 }

/-- A duplicate (R55). -/
def duplicate (s : State) : State := setFlag .duplicate (s.withLine s.line.muted)

/-- A whole good frame of another attempt than this node's is committed (R61, R62): it ends the reception, and is a
duplicate or is delivered. -/
def commitFrame (ofKind : Byte → Bool) (deliver : Frame → Reception → State → State) (s : State) : State :=
  match s.line.reception with
  | none => s
  | some r =>
    let f := frameOf r.chars
    if s.running ∧ r.own = false ∧ r.whole ∧ checkPasses r.chars ∧ ofKind f.kind then
      if f.station = s.cfg.station then duplicate (endReception s) else deliver f r (endReception s)
    else s

/-- The kind code is this one. -/
def isKind (k : Byte) (k' : Byte) : Bool := decide (k' = k)

/-- MARK_RECEIVED (R22): the Agreement Unit measures the sender. -/
def execMarkReceived (s : State) : Host.Outcome State Fault Refusal :=
  .next (commitFrame (isKind markKind) (fun f r s => takeMark f.station f.payload r.capture s) s)

/-- A BLOCK at the receive staging (R75, R154). -/
def takeBlock (f : Frame) (s : State) : State :=
  if StationSet.has s.cfg.listen f.station && !(f.payload.getD 0 0).getLsbD 0 && blockLength f.payload.length then
    (blockRecords f.payload).foldl (fun s bs => commitPeer f.station f.role bs s) s
  else s

/-- BLOCK_RECEIVED (R75). -/
def execBlockReceived (s : State) : Host.Outcome State Fault Refusal :=
  .next (commitFrame (isKind blockKind) (fun f _ s => takeBlock f s) s)

/-- STATE_RECEIVED (R62): delivered to no block. -/
def execStateReceived (s : State) : Host.Outcome State Fault Refusal :=
  .next (commitFrame (isKind stateKind) (fun _ _ s => s) s)

/-- The window that an ASK requests in this node's time (R79). -/
def askedWindow (id : WinId) (cls : WinClass) (payload : List Byte) (lead : NodeTime) : Entry :=
  let start := plus lead (min (max (natAt 3 2 payload) 80) 5000 * Config.milli : Nat)
  { id := id, cls := cls, start := start, finish := plus start (min (natAt 5 2 payload) 10000 * Config.milli : Nat),
    forced := decide (natAt 2 1 payload ≠ 0) }

/-- An ASK at the Window Unit (R79). -/
def takeAsk (f : Frame) (r : Reception) (s : State) : State :=
  let id := WinId.ofByte (f.payload.getD 0 0)
  match WinClass.ofCode (natAt 1 1 f.payload) with
  | none => s
  | some cls =>
    if f.payload.length = 9 ∧ id.station = f.station ∧ natAt 5 2 f.payload ≠ 0 ∧
        StationSet.has (BitVec.ofNat 16 (natAt 7 2 f.payload)) s.cfg.station then
      decideAsk (askedWindow id cls f.payload (s.win.leadCap.getD r.capture.reading)) r.leadTick (dropWindow id s)
    else s

/-- ASK_RECEIVED (R79). -/
def execAskReceived (s : State) : Host.Outcome State Fault Refusal := .next (commitFrame (isKind askKind) takeAsk s)

/-- A DEFER of the own window's ASK (R85). -/
def takeDefer (f : Frame) (r : Reception) (s : State) : State :=
  let id := WinId.ofByte (f.payload.getD 0 0)
  let o := s.win.own
  let waitEnd := plus (s.win.leadCap.getD r.capture.reading) (min (natAt 1 2 f.payload) 60000 * Config.milli : Nat)
  if f.payload.length = 3 ∧ id = ownId s then
    match o.state with
    | .waiting => if o.forced then s else refuseOwn waitEnd true s
    | .deferred => s.withWin { s.win with own := { o with waitEnd := some (extendEnd waitEnd o.waitEnd) } }
    | .none | .asking | .granted | .opened => s
  else s

/-- DEFER_RECEIVED (R85). -/
def execDeferReceived (s : State) : Host.Outcome State Fault Refusal :=
  .next (commitFrame (isKind deferKind) takeDefer s)

/-- A DEFER for a window id in the window queue is marked by that window's WITHDRAW (R97). -/
def Queued.markWithdrawn (id : WinId) (q : Queued) : Queued :=
  match q.frame with
  | .defer w t e g _ => if w.id = id then { q with frame := .defer w t e g true } else q
  | .ask _ _ _ _ | .withdraw _ _ => q

/-- A WITHDRAW at the Window Unit (R80, R97, R99). -/
def takeWithdraw (f : Frame) (s : State) : State :=
  let id := WinId.ofByte (f.payload.getD 0 0)
  if f.payload.length = 1 then
    dropWindow id (s.withLine { s.line with queue := s.line.queue.map (Queued.markWithdrawn id) })
  else s

/-- WITHDRAW_RECEIVED (R99). -/
def execWithdrawReceived (s : State) : Host.Outcome State Fault Refusal :=
  .next (commitFrame (isKind withdrawKind) (fun f _ s => takeWithdraw f s) s)

/-- An attempt of a reply whose scan has ended (R159). -/
def Attempt.orphan (a : Attempt) : Attempt :=
  match a.item with
  | .reply _ => { a with item := .reply true }
  | .window | .mark | .state | .bank _ => a

/-- The attempt in progress is of a recall reply. -/
def LineUnit.replying (l : LineUnit) : Bool :=
  l.attempt.any fun a => match a.item with | .reply _ => true | .window | .mark | .state | .bank _ => false

/-- A new scan takes the place of any other (R159, R160); its first reply is assembled at once, or when the attempt of
the old scan's reply ends. -/
def startScan (first count : Nat) (s : State) : State :=
  let s' := s.withRing { s.ring with scan := some (newScan first count s.ring) }
  if s.line.replying then s'.withLine { s.line with attempt := s.line.attempt.map Attempt.orphan } else assembleReply s'

/-- A RECALL at the Record Ring (R159). -/
def takeRecall (f : Frame) (s : State) : State :=
  if f.payload.length = 7 ∧ natAt 0 1 f.payload = s.cfg.station then
    startScan (natAt 1 4 f.payload) (natAt 5 2 f.payload) s
  else s

/-- RECALL_RECEIVED (R159). -/
def execRecallReceived (s : State) : Host.Outcome State Fault Refusal :=
  .next (commitFrame (isKind recallKind) (fun f _ s => takeRecall f s) s)

/-- Flags of a group cleared, its gate reopened, and closed again if an enabled flag is still set (R172). -/
def clearFlags (g : Group) (mask : Byte) (s : State) : State :=
  let left := s.flag.flags.get g &&& ~~~mask
  let s' := s.withFlag { s.flag with flags := s.flag.flags.set g left, closed := s.flag.closed.set g false }
  if left &&& s.cfg.masks.get g ≠ 0#8 then closeGate g s' else s'

/-- A CLEAR at the Flag Unit (R171). -/
def takeClear (f : Frame) (s : State) : State :=
  match Group.ofCode (natAt 1 1 f.payload) with
  | none => s
  | some g =>
    if f.payload.length = 3 ∧ (natAt 0 1 f.payload = s.cfg.station ∨ natAt 0 1 f.payload = 255) then
      clearFlags g (f.payload.getD 2 0) s
    else s

/-- CLEAR_RECEIVED (R172). -/
def execClearReceived (s : State) : Host.Outcome State Fault Refusal :=
  .next (commitFrame (isKind clearKind) (fun f _ s => takeClear f s) s)

/-- UNKNOWN_KIND_RECEIVED (R62): delivered to no block. -/
def execUnknownKindReceived (s : State) : Host.Outcome State Fault Refusal :=
  .next (commitFrame (fun k => !knownKind k) (fun _ _ s => s) s)

/-! ## The contents of an attempt (R63, R157, R161, R177) -/

/-- Six bytes of a tag, zero when there is no record (R195). -/
def tagBytes : Option Record → List Byte
  | none => leBytes 6 0
  | some r => leBytes 4 r.seconds ++ leBytes 2 r.millis

/-- A spread or an offset held within four signed bytes (R38). -/
def clampReport (v : Int) : Int := clampTo (-2147483648) 2147483647 v

/-- A row's entry in a STATE, none for an EMPTY row (R38, R195). -/
def Row.entry (r : Row) : List Byte :=
  if r.state = .empty then []
  else
    [BitVec.ofNat 8 (r.station % 16 + 16 * r.state.code), BitVec.ofNat 8 r.peer.code] ++
      leBytes 4 (clampReport r.offset)

/-- The byte of the gates (R195). -/
def gateByte (p : PerGroup Bool) : Byte :=
  BitVec.ofNat 8 (weight 0 p.time + weight 1 p.line + weight 2 p.data + weight 3 p.window + weight 4 p.start)

/-- The payload of a STATE, each item from its owner as it now stands (R177, R195). -/
def statePayload (s : State) : List Byte :=
  [s.flag.flags.time, s.flag.flags.line, s.flag.flags.data, s.flag.flags.window, s.flag.flags.start,
   gateByte s.flag.closed,
   BitVec.ofNat 8 (s.clock.state.code + 4 * s.line.state.code + 16 * s.loader.lastCause.code)] ++
  leBytes 2 s.clock.trim ++ leBytes 4 (towardZero s.clock.slew Config.suPerNs) ++
  [BitVec.ofNat 8 s.agr.summary.tier.code, BitVec.ofNat 8 s.agr.summary.count] ++
  leBytes 4 (clampReport s.agr.summary.spread) ++
  leBytes 1 s.acq.steps.x ++ leBytes 1 s.acq.steps.y ++ leBytes 1 s.acq.steps.z ++
  tagBytes s.ring.records.head? ++ tagBytes s.ring.records.getLast? ++ leBytes 2 s.ring.records.length ++
  s.agr.rows.flatMap Row.entry

/-- The payload of a BLOCK (R157, R161, R195). -/
def blockPayload (markers : Byte) (rs : List Record) : List Byte := markers :: rs.flatMap Record.bytes

/-- An attempt as it begins, its lead still to come (R64). -/
def Attempt.begun (item : Item) (kind : Byte) (length : Nat) (payload : List Byte) : Attempt :=
  { item := item, kind := kind, length := length, payload := payload, ticks := 0, lead := none, forced := false,
    delay := 0 }

/-- The ASK is forced at an attempt that starts now (R83). -/
def askForced (cls : WinClass) (o : OwnWindow) : Bool :=
  o.urgent || (decide (cls = .compStep) && decide (3 ≤ o.attempts))

/-- The attempt of a frame of the window queue (R63, R78, R80). -/
def windowAttempt (f : WinFrame) (s : State) : Attempt :=
  match f with
  | .ask id cls _ _ =>
    { Attempt.begun .window askKind 9
        [id.toByte, BitVec.ofNat 8 cls.code, BitVec.ofNat 8 (weight 0 (askForced cls s.win.own))] with
      forced := askForced cls s.win.own }
  | .defer w _ _ _ _ => Attempt.begun .window deferKind 3 [w.id.toByte]
  | .withdraw id _ => Attempt.begun .window withdrawKind 1 [id.toByte]

/-- The attempt of a BLOCK, its payload whole. -/
def blockAttempt (item : Item) (payload : List Byte) : Attempt :=
  Attempt.begun item blockKind payload.length payload

/-! ## Attempts (R64, R65) -/

/-- The line allows a start (R64). -/
def allowsStart (s : State) : Bool :=
  s.running && decide (s.line.state = .active) && s.line.ready && decide (s.line.backoff = none) &&
    decide (s.line.attempt = none)

/-- The first frame of the window queue is now in an attempt. -/
def markFirst : List Queued → List Queued
  | [] => []
  | q :: qs => { q with inAttempt := true } :: qs

/-- The attempt begins. -/
def withAttempt (a : Attempt) (s : State) : State := s.withLine { s.line with attempt := some a }

/-- The current reply of the scan (R160). -/
def RecordRing.reply (g : RecordRing) : Option Reply := g.scan.bind (·.reply)

/-- The arbiter's choice and the start of its attempt (R64, R74, R157). -/
def startAttempt (s : State) : State :=
  match s.line.queue with
  | q :: _ => withAttempt (windowAttempt q.frame s) (s.withLine { s.line with queue := markFirst s.line.queue })
  | [] =>
    if s.line.markSlot.full then withAttempt (Attempt.begun .mark markKind 9 []) s
    else if s.line.stateSlot.full then
      withAttempt (Attempt.begun .state stateKind (statePayload s).length (statePayload s)) s
    else
      match s.ring.pendingBank with
      | some i =>
        withAttempt (blockAttempt (.bank i) (blockPayload 0#8 (s.ring.bank i).records))
          (s.withRing (s.ring.setBank i { s.ring.bank i with state := .sending }))
      | none =>
        match s.ring.reply with
        | some r =>
          withAttempt (blockAttempt (.reply false) (blockPayload (blockMarkers true r.final r.notHeld r.gap) r.records)) s
        | none => s

/-- ATTEMPT_START (R64). -/
def execAttemptStart (s : State) : Host.Outcome State Fault Refusal :=
  .next (if allowsStart s then startAttempt s else s)

/-- A byte read back differs from the byte sent, or has a framing error (R65). -/
def mismatch (sent : List Byte) (r : Reception) : Bool := r.framing || decide (r.chars ≠ sent.take r.chars.length)

/-- The attempt on the line with the reception of it (R65). -/
def LineUnit.onLine (l : LineUnit) : Option (Attempt × Reception) :=
  match l.attempt, l.reception with
  | some a, some r => if r.own then some (a, r) else none
  | _, _ => none

/-- The attempt has ended, and with it its reception (R61, R65, R66). -/
def LineUnit.attemptOver (l : LineUnit) : LineUnit := { l with attempt := none, reception := none, ready := false }

/-- A slot after its frame left: the next, if there is one (R70). -/
def Slot.left (slot : Slot) : Slot := { full := slot.waiting, failures := 0, waiting := false }

/-- The frame leaves its slot, or the Record Ring is told, and the owner is told sent (R65, R74). -/
def reportSent (a : Attempt) (s : State) : State :=
  match a.item with
  | .window =>
    match s.line.queue.find? (·.inAttempt) with
    | none => s
    | some q =>
      windowSent q.frame a.forced a.delay (s.withLine { s.line with queue := s.line.queue.eraseP (·.inAttempt) })
  | .mark => s.withLine { s.line with markSlot := s.line.markSlot.left }
  | .state => s.withLine { s.line with stateSlot := s.line.stateSlot.left }
  | .bank i => bankReport i .sent (s.withLine { s.line with bankFailures := 0 })
  | .reply false => recallReport .sent (s.withLine { s.line with replyFailures := 0 })
  | .reply true => assembleReply s

/-- The attempt whose last check character has been read back without mismatch (R65). -/
def sentDue (s : State) : Option Attempt :=
  match s.line.onLine with
  | none => none
  | some (a, r) =>
    if s.running ∧ mismatch (a.chars s.cfg) r = false ∧ r.chars.length = a.length + 6 then some a else none

/-- FRAME_SENT (R65). -/
def execFrameSent (s : State) : Host.Outcome State Fault Refusal :=
  .next (match sentDue s with
    | none => s
    | some a => reportSent a (s.withLine s.line.attemptOver))

/-! ## Collisions and back-off (R66 to R69) -/

/-- One step of the generator (R68). -/
def advanceGenerator (g : Nat) : Nat :=
  g / 2 + (if (bitsOf 0 1 g + bitsOf 2 1 g + bitsOf 3 1 g + bitsOf 5 1 g) % 2 = 1 then 32768 else 0)

/-- The slots drawn after n failures, from the advanced generator (R67, R68). -/
def drawSlots (n generator nanoseconds : Nat) : Nat := (generator + nanoseconds) % 2 ^ min n 5

/-- The failures of the attempt's frame before this collision (R66). -/
def failuresOf (a : Attempt) (l : LineUnit) : Nat :=
  match a.item with
  | .window => ((l.queue.find? (·.inAttempt)).map (·.failures)).getD 0
  | .mark => l.markSlot.failures
  | .state => l.stateSlot.failures
  | .bank _ => l.bankFailures
  | .reply _ => l.replyFailures

/-- A slot after a collision that does not drop its frame (R66, R70). -/
def Slot.failed (n : Nat) (slot : Slot) : Slot :=
  if slot.waiting then { full := true, failures := 0, waiting := false } else { slot with failures := n }

/-- A frame of the window queue pending again with its failures (R66). -/
def Queued.failed (n : Nat) (q : Queued) : Queued :=
  if q.inAttempt then { q with failures := n, inAttempt := false } else q

/-- A collision that leaves the frame below eight failures (R66, R70, R72, R73, R74). -/
def reportFailed (a : Attempt) (n : Nat) (s : State) : State :=
  match a.item with
  | .window =>
    match s.line.queue.find? (·.inAttempt) with
    | none => s
    | some q =>
      if removedByCollision s q.frame then
        deferLost q.frame (s.withLine { s.line with queue := s.line.queue.eraseP (·.inAttempt) })
      else s.withLine { s.line with queue := s.line.queue.map (Queued.failed n) }
  | .mark => s.withLine { s.line with markSlot := s.line.markSlot.failed n }
  | .state => s.withLine { s.line with stateSlot := s.line.stateSlot.failed n }
  | .bank i => bankReport i .failed (s.withLine { s.line with bankFailures := n })
  | .reply false => recallReport .failed (s.withLine { s.line with replyFailures := n })
  | .reply true => assembleReply s

/-- A collision that drops the frame: it leaves its slot, and its owner is told dropped (R69). -/
def reportDropped (a : Attempt) (s : State) : State :=
  match a.item with
  | .window =>
    match s.line.queue.find? (·.inAttempt) with
    | none => s
    | some q => windowDropped q.frame (s.withLine { s.line with queue := s.line.queue.eraseP (·.inAttempt) })
  | .mark => s.withLine { s.line with markSlot := s.line.markSlot.left }
  | .state => s.withLine { s.line with stateSlot := s.line.stateSlot.left }
  | .bank i => bankReport i .dropped (s.withLine { s.line with bankFailures := 0 })
  | .reply false => recallReport .dropped (s.withLine { s.line with replyFailures := 0 })
  | .reply true => assembleReply s

/-- The back-off of n failures is drawn (R67, R68): with no slot nothing remains to be counted. -/
def LineUnit.drawBackoff (n nanoseconds : Nat) (l : LineUnit) : LineUnit :=
  let g := advanceGenerator l.generator
  { l with generator := g,
           backoff := if drawSlots n g nanoseconds = 0 then none
             else some (drawSlots n g nanoseconds * Config.slotTicks) }

/-- The attempt ends and the jam begins (R66). -/
def LineUnit.jamBegun (l : LineUnit) : LineUnit := { l.attemptOver with jam := some Config.jamTicks }

/-- A collision of an attempt (R66 to R69). -/
def collide (a : Attempt) (s : State) : State :=
  let n := failuresOf a s.line + 1
  let s' := s.withLine s.line.jamBegun
  if Config.dropFailures ≤ n then setFlag .frameDropped (reportDropped a s')
  else reportFailed a n (s'.withLine (s'.line.drawBackoff n s.clock.nanoseconds))

/-- The attempt that a mismatch stops (R65, R66). -/
def collisionDue (s : State) : Option Attempt :=
  match s.line.onLine with
  | none => none
  | some (a, r) => if s.running ∧ mismatch (a.chars s.cfg) r then some a else none

/-- COLLISION (R66). -/
def execCollision (s : State) : Host.Outcome State Fault Refusal :=
  .next (match collisionDue s with
    | none => s
    | some a => collide a s)

/-- JAM_END (R66): after 400 ticks of jam the line is released. -/
def execJamEnd (s : State) : Host.Outcome State Fault Refusal :=
  .next (if s.running ∧ s.line.jam = some 0 then s.withLine { s.line with jam := none } else s)

/-- BACKOFF_END (R67): the last slot is counted. -/
def execBackoffEnd (s : State) : Host.Outcome State Fault Refusal :=
  .next (if s.running ∧ s.line.ready ∧ s.line.backoff = some 0 then s.withLine { s.line with backoff := none } else s)

/-! ## STUCK (R57) -/

/-- The stuck limit is reached outside STUCK (R57). -/
def stuckDue (s : State) : Bool :=
  s.running && decide (s.line.state ≠ .stuck) && decide (Config.stuckLimit ≤ s.line.stuckTimer)

/-- STUCK_LIMIT (R57). The line state and its round count are kept as the return state; the line's own round count, which
R57 gives no value while STUCK and nothing reads there, is 0 until the release (DESIGN CHOICE, log entry 34). -/
def execStuckLimit (s : State) : Host.Outcome State Fault Refusal :=
  .next (if stuckDue s then
      setFlag .lineStuck (s.withLine { s.line with
        state := .stuck, ret := some (s.line.state, s.line.roundCount), roundCount := 0 })
    else s)

/-- The Line Unit at the stuck release (R57). -/
def LineUnit.released (l : LineUnit) : LineUnit :=
  match l.ret with
  | none => l
  | some (state, n) => { l with state := state, roundCount := n, ret := none, stuckTimer := 0 }

/-- An idle run has reached 10,000 ticks in STUCK (R57). -/
def releaseDue (s : State) : Bool :=
  s.running && decide (s.line.state = .stuck) && decide (Config.stuckRelease ≤ s.line.idleRun)

/-- STUCK_RELEASE (R57). -/
def execStuckRelease (s : State) : Host.Outcome State Fault Refusal :=
  .next (if releaseDue s then s.withLine s.line.released else s)

end Sys2Proof.Machine
end

