-- ==== Sys2Proof/Machine/Startup.lean ====
section
/-! DEFINITION. The Start Loader (10): the two resets, the straps, the image, its settling, the load and the start, and
the commands POWER_ON_RESET, POWER_ON_RELEASE, EXTERNAL_RESET, RESET_PIN_RELEASE and IMAGE_READ. -/

namespace Sys2Proof.Machine

/-! ## The image (R187, R198) -/

/-- What a valid image gives for one component, as read. -/
structure RawComp where
  factor : Nat
  startSteps : Int
  probe : Nat
  count : Nat
  places : List Breakpoint
  deriving DecidableEq, Repr

/-- The fields of an image, as read (R198). -/
structure RawImage where
  station : Nat
  role : Nat
  period : Nat
  receiveDelay : Nat
  initialTrim : Int
  exclusion : Nat
  spreadLimit : Nat
  listen : StationSet
  partner : Nat
  deltaLimit : Nat
  minSamples : Nat
  comps : Triple RawComp
  stepSize : Nat
  probes : List ProbeSettings
  settle : Nat
  compAffect : StationSet
  polarizeAffect : StationSet
  cycle : Nat
  polarize : Nat
  count : Nat
  bankLength : Nat
  statePeriod : Nat
  masks : PerGroup Byte
  deriving DecidableEq, Repr

/-- The bytes of a whole image of format 0x01 (R198). -/
def imageBytes : Nat := Config.imageFields + 5

/-- The verdict on image bytes by format, length and check (R187). -/
def imageVerdict (img : List Byte) : Verdict :=
  if natAt 0 1 img = 1 ∧ natAt 1 2 img = Config.imageFields ∧
      (crc (bytesAt 0 (Config.imageFields + 3) img)).toNat = natAt (Config.imageFields + 3) 2 img then .valid
  else .defaults

/-- A breakpoint of an image (R198). -/
def rawBreakpoint (at_ : Nat) (img : List Byte) : Breakpoint :=
  { temperature := intAt at_ 2 img, offset := intAt (at_ + 2) 4 img, scale := intAt (at_ + 6) 2 img }

/-- A component's fields: the breakpoint places beyond the count are not read (R198; 10.3). -/
def rawComp (c : Nat) (img : List Byte) : RawComp :=
  { factor := natAt (26 + 4 * c) 2 img, startSteps := intAt (28 + 4 * c) 1 img, probe := natAt (29 + 4 * c) 1 img,
    count := natAt (77 + 129 * c) 1 img,
    places := (List.range (min (natAt (77 + 129 * c) 1 img) 16)).map fun i =>
      rawBreakpoint (78 + 129 * c + 8 * i) img }

/-- A probe's fields (R198). -/
def rawProbe (j : Nat) (img : List Byte) : ProbeSettings :=
  { origin := intAt (42 + 4 * j) 2 img, span := natAt (44 + 4 * j) 2 img }

/-- A station set of an image (R194). -/
def setAt (k : Nat) (img : List Byte) : StationSet := BitVec.ofNat 16 (natAt k 2 img)

/-- The fields of an image (R198). -/
def rawImage (img : List Byte) : RawImage :=
  { station := natAt 3 1 img, role := natAt 4 1 img, period := natAt 5 1 img, receiveDelay := natAt 6 2 img,
    initialTrim := intAt 8 2 img, exclusion := natAt 10 4 img, spreadLimit := natAt 14 4 img, listen := setAt 18 img,
    partner := natAt 20 1 img, deltaLimit := natAt 21 4 img, minSamples := natAt 25 1 img,
    comps := ⟨rawComp 0 img, rawComp 1 img, rawComp 2 img⟩, stepSize := natAt 38 4 img,
    probes := (List.range 4).map fun j => rawProbe j img,
    settle := natAt 58 2 img, compAffect := setAt 60 img, polarizeAffect := setAt 62 img, cycle := natAt 64 1 img,
    polarize := natAt 65 2 img, count := natAt 67 2 img, bankLength := natAt 69 1 img, statePeriod := natAt 70 2 img,
    masks := { time := img.getD 72 0, line := img.getD 73 0, data := img.getD 74 0, window := img.getD 75 0,
               start := img.getD 76 0 } }

/-! ## Settling (R188 to R191) -/

/-- A number held within its range (R188). -/
def clampNat (lo hi v : Nat) : Nat := min (max v lo) hi

/-- The round period settled (R188). -/
def settlePeriod (p : Nat) : Nat := if p < 4 then 2 else if p < 8 then 4 else if p < 16 then 8 else 16

/-- A breakpoint settled (R189 step 2). -/
def settleBreakpoint (b : Breakpoint) : Breakpoint :=
  { temperature := clampTo (-5000) 7000 b.temperature, offset := clampTo (-1000000) 1000000 b.offset,
    scale := clampTo (-10000) 10000 b.scale }

/-- The breakpoints up to the first whose temperature does not rise from the one before it (R189 step 3). -/
def risingFrom (t : Int) : List Breakpoint → List Breakpoint
  | [] => []
  | b :: bs => if t < b.temperature then b :: risingFrom b.temperature bs else []

/-- A table cut (R189 step 3). -/
def cutTable : List Breakpoint → List Breakpoint
  | [] => []
  | b :: bs => b :: risingFrom b.temperature bs

/-- A component's fields clamped, its table cut (R188, R189). -/
def settleComp (c : RawComp) : RawComp :=
  { factor := clampNat 1 20000 c.factor, startSteps := clampTo (-32) 32 c.startSteps, probe := min c.probe 3,
    count := min c.count 16, places := cutTable (c.places.map settleBreakpoint) }

/-- A probe's fields clamped (R188). -/
def settleProbe (p : ProbeSettings) : ProbeSettings :=
  { origin := clampTo (-10000) 10000 p.origin, span := clampNat 1 30000 p.span }

/-- The check partner's code settled, given the settled station (R188). -/
def settlePartner (station code : Nat) : Nat := if code ≤ 15 ∧ code ≠ station then code else 255

/-- Every field of an image clamped into its range, and every table cut (R188, R189). -/
def settleFields (r : RawImage) : RawImage :=
  { r with
    station := min r.station 15, role := min r.role 2, period := settlePeriod r.period
    initialTrim := clampTo (-10000) 10000 r.initialTrim
    exclusion := clampNat 10000 100000000 r.exclusion, spreadLimit := clampNat 10000 100000000 r.spreadLimit
    partner := settlePartner (min r.station 15) r.partner
    deltaLimit := clampNat 100 1000000 r.deltaLimit, minSamples := clampNat 1 10 r.minSamples
    comps := r.comps.map settleComp, stepSize := clampNat 100000 5000000 r.stepSize
    probes := r.probes.map settleProbe, settle := clampNat 50 1000 r.settle, cycle := clampNat 2 60 r.cycle
    polarize := clampNat 10 3000 r.polarize, count := clampNat 100 2000 r.count
    bankLength := clampNat 1 6 r.bankLength, statePeriod := clampNat 10 600 r.statePeriod }

/-- A field was clamped or a table cut (R188, R189). -/
def fieldsClamped (r : RawImage) : Bool := decide (settleFields r ≠ r)

/-- The three derived settings (R190), and enable masks held to their groups' flags. -/
def derive (cfg : Settings) : Settings :=
  { cfg with
    compAffect := StationSet.add cfg.compAffect cfg.station
    listen :=
      match cfg.partner with
      | none => StationSet.remove cfg.listen cfg.station
      | some p => StationSet.add (StationSet.remove cfg.listen cfg.station) p
    masks :=
      { time := cfg.masks.time &&& allFlags.time, line := cfg.masks.line &&& allFlags.line,
        data := cfg.masks.data &&& allFlags.data, window := cfg.masks.window &&& allFlags.window,
        start := cfg.masks.start &&& allFlags.start } }

/-- A component's settings from settled fields. -/
def compOf (c : RawComp) : CompSettings :=
  { factor := c.factor, startSteps := c.startSteps, probe := c.probe, table := c.places }

/-- The settings from settled fields. -/
def settingsOf (r : RawImage) : Settings :=
  { station := r.station, role := Role.ofCode r.role, period := r.period, receiveDelay := r.receiveDelay,
    initialTrim := r.initialTrim, exclusion := r.exclusion, spreadLimit := r.spreadLimit, listen := r.listen,
    partner := if r.partner = 255 then none else some r.partner, deltaLimit := r.deltaLimit,
    minSamples := r.minSamples, comps := r.comps.map compOf, stepSize := r.stepSize, probes := r.probes,
    settle := r.settle, compAffect := r.compAffect, polarizeAffect := r.polarizeAffect, cycle := r.cycle,
    polarize := r.polarize, count := r.count, bankLength := r.bankLength, statePeriod := r.statePeriod,
    masks := r.masks }

/-- The settings of a valid image (R188 to R190). -/
def settleImage (img : List Byte) : Settled :=
  { cfg := derive (settingsOf (settleFields (rawImage img))), clamped := fieldsClamped (rawImage img) }

/-- The settings of a verdict of defaults (R190, R191). -/
def settleDefaults (p : Straps) : Settled :=
  { cfg := derive { Settings.beforeLoad with
      station := p.station, role := Role.ofCode (min p.role 2), compAffect := 0#16 },
    clamped := decide (2 < p.role) }

/-! ## Load and begin (R192, R193) -/

/-- The steps the start steps give. -/
def Settings.startSteps (cfg : Settings) : Triple Int := cfg.comps.map (·.startSteps)

/-- Every block but the Record Ring and the Start Loader in its state after reset, with these settings and compensation
steps (R180, R192). -/
def blocksAfterReset (cfg : Settings) (steps : Triple Int) (s : State) : State :=
  { s with
    cfg := cfg
    clock := Clock.afterReset cfg
    ref := RefInput.afterReset
    agr := Agreement.afterReset cfg
    line := LineUnit.afterReset cfg
    win := WindowUnit.afterReset
    acq := Acquisition.afterReset cfg steps
    corr := Correction.afterReset
    flag := FlagUnit.afterReset }

/-- The flag of a cause (R179). -/
def ResetCause.flag : ResetCause → Flag
  | .powerOn => .powerOn
  | .external => .extReset

/-- The start sequence goes on to a stage. -/
def atStage (next : Stage) (s : State) : State := s.withLoader { s.loader with phase := .starting next }

/-- Stage 3 (R187): the verdict, by the image enable strap and then by the image. -/
def giveVerdict (s : State) : State :=
  s.withLoader { s.loader with
    phase := .starting .settle
    verdict := if s.loader.straps.image then imageVerdict s.loader.image else .defaults }

/-- Stage 4 (R186, R188 to R191): the image's fields, or the straps and the defaults, are settled, and the image's bytes
are discarded. -/
def settleStage (s : State) : State :=
  s.withLoader { s.loader with
    image := []
    phase := .starting (.load
      (match s.loader.verdict with
        | .valid => settleImage s.loader.image
        | .defaults => settleDefaults s.loader.straps)) }

/-- Stage 5 (R192): every block takes its settled values, and the compensation outputs the start steps. -/
def loadStage (set : Settled) (s : State) : State :=
  atStage (.flags set.clamped) (blocksAfterReset set.cfg set.cfg.startSteps s)

/-- Stage 6 (R179, R182, R192): the START flags, in order, and the last cause. -/
def flagStage (clamped : Bool) (s : State) : State :=
  let s' := setFlagIf clamped .configClamped
    (setFlagIf (decide (s.loader.verdict = .defaults)) .configDefault (setFlag s.loader.pendingCause.flag s))
  s'.withLoader { s'.loader with phase := .starting .note, lastCause := s.loader.pendingCause }

/-- Stage 7 (R193): the RESET note. -/
def noteStage (s : State) : State := atStage .clock (commitNote (.reset s.loader.pendingCause) s)

/-- Stage 8 (R175, R193): the Node Clock starts, and with it every block's time. -/
def clockStage (s : State) : State :=
  (s.withLoader { s.loader with phase := .running }).withFlag
    { s.flag with stateTimer := some (s.tick + s.cfg.statePeriod * Config.ticksPerSecond) }

/-- The stage of the start sequence that is next is taken, as one event (R184). -/
def takeStage (s : State) : State :=
  match s.loader.phase with
  | .starting .verdict => giveVerdict s
  | .starting .settle => settleStage s
  | .starting (.load set) => loadStage set s
  | .starting (.flags clamped) => flagStage clamped s
  | .starting .note => noteStage s
  | .starting .clock => clockStage s
  | .held | .readingImage | .running => s

/-- So many stages, one after another. -/
def takeStages : Nat → State → State
  | 0, s => s
  | n + 1, s => takeStages n (takeStage s)

/-- The stages from the third to the one named are taken (R184). -/
def stagesThrough (through : Nat) (s : State) : State := takeStages (through - 2) (atStage .verdict s)

/-- The straps as the seven pins give them (R185). -/
def strapsRead (p : Straps) : Straps := { station := p.station % 16, role := p.role % 4, image := p.image }

/-- A start sequence begins: stage 1, and stage 2 begins or is skipped (R184 to R186). -/
def beginStart (p : Straps) (through : Nat) (s : State) : State :=
  let s' := s.withLoader { s.loader with begun := true, straps := strapsRead p, image := [] }
  if p.image then s'.withLoader { s'.loader with phase := .readingImage, readFrom := s.tick }
  else stagesThrough through s'

/-! ## Commands -/

/-- Every block held in its state after reset; the Record Ring and the Start Loader are given (R180). -/
def resetBlocks (steps : Triple Int) (ring : RecordRing) (loader : Loader) (s : State) : State :=
  { blocksAfterReset Settings.beforeLoad steps s with ring := ring, loader := loader }

/-- POWER_ON_RESET (R180 to R182): the ring is emptied, the steps are 0 and the pin's count is 0. -/
def execPowerOnReset (s : State) : Host.Outcome State Fault Refusal :=
  .next (resetBlocks (Triple.all 0) RecordRing.afterPowerOn
    { Loader.afterPowerOn with ext := s.loader.ext, pinHigh := s.loader.pinHigh } s)

/-- 65,536 ticks of good supply have passed in a power-on reset (R180). -/
def powerOnDone (s : State) : Bool := s.loader.powerOn && decide (Config.supplyTicks ≤ s.loader.goodTicks)

/-- POWER_ON_RELEASE (R180, R184). -/
def execPowerOnRelease (start : Begin) (s : State) : Host.Outcome State Fault Refusal :=
  .next (if powerOnDone s then
      let s' := s.withLoader { s.loader with powerOn := false }
      if s.loader.ext then s' else beginStart start.straps start.through s'
    else s)

/-- The pin has read low for 64 ticks and no external reset is in force (R181). -/
def externalDue (s : State) : Bool := !s.loader.ext && decide (Config.pinTicks ≤ s.loader.lowCount)

/-- EXTERNAL_RESET (R180 to R182): the ring and the compensation steps are kept. -/
def execExternalReset (s : State) : Host.Outcome State Fault Refusal :=
  .next (if externalDue s then
      resetBlocks s.acq.steps s.ring.afterExternal
        { s.loader with
          phase := .held, ext := true, verdict := .defaults, image := [],
          pendingCause := if s.loader.begun then .external else s.loader.pendingCause } s
    else s)

/-- The pin reads high after acceptance (R181). -/
def pinReleased (s : State) : Bool := s.loader.ext && s.loader.pinHigh

/-- RESET_PIN_RELEASE (R181, R184). -/
def execResetPinRelease (start : Begin) (s : State) : Host.Outcome State Fault Refusal :=
  .next (if pinReleased s then
      let s' := s.withLoader { s.loader with ext := false }
      if s.loader.powerOn then s' else beginStart start.straps start.through s'
    else s)

/-- The header of an image is that of format 0x01 (R186, R198). -/
def headerRead (img : List Byte) : Bool := decide (natAt 0 1 img = 1 ∧ natAt 1 2 img = Config.imageFields)

/-- The image's bytes that are taken: the whole image, or the header alone unless format and length are those of format
0x01; a byte the EEPROM does not give reads 0xFF (R186, R199). -/
def bytesRead (levels : List Bool) : List Byte :=
  takenBytes (if headerRead (takenBytes 3 levels) then imageBytes else 3) levels

/-- The image read has had its time, that of the command, the address and the bytes taken (R186, R199). -/
def imageDue (taken : List Byte) (s : State) : Bool :=
  decide (s.loader.phase = .readingImage) &&
    decide (s.loader.readFrom + Config.portByteTicks * (imageCommand.length + taken.length) ≤ s.tick)

/-- Stage 2 ends with the image's bytes, and the stages from the third to the one named are taken (R184, R186). -/
def imageTaken (taken : List Byte) (through : Nat) (s : State) : State :=
  stagesThrough through (s.withLoader { s.loader with image := taken })

/-- IMAGE_READ (R186). -/
def execImageRead (image : ImageBytes) (s : State) : Host.Outcome State Fault Refusal :=
  .next (if imageDue (bytesRead image.levels) s then imageTaken (bytesRead image.levels) image.through s else s)

end Sys2Proof.Machine
end

