-- ==== Sys2Proof/Machine/Dispatch.lean ====
section
/-! DEFINITION. One arm per command, each one call of its meaning. -/

namespace Sys2Proof.Machine

def exec (i : Instr) (s : State) : Host.Outcome State Fault Refusal :=
  match i with
  | .oscillatorTick pins => Sys2Proof.Machine.execOscillatorTick pins s
  | .roundEnd => Sys2Proof.Machine.execRoundEnd s
  | .markInstant => Sys2Proof.Machine.execMarkInstant s
  | .leadEdge => Sys2Proof.Machine.execLeadEdge s
  | .receiverReady => Sys2Proof.Machine.execReceiverReady s
  | .receptionTruncated => Sys2Proof.Machine.execReceptionTruncated s
  | .checkFailed => Sys2Proof.Machine.execCheckFailed s
  | .markReceived => Sys2Proof.Machine.execMarkReceived s
  | .blockReceived => Sys2Proof.Machine.execBlockReceived s
  | .stateReceived => Sys2Proof.Machine.execStateReceived s
  | .askReceived => Sys2Proof.Machine.execAskReceived s
  | .deferReceived => Sys2Proof.Machine.execDeferReceived s
  | .withdrawReceived => Sys2Proof.Machine.execWithdrawReceived s
  | .recallReceived => Sys2Proof.Machine.execRecallReceived s
  | .clearReceived => Sys2Proof.Machine.execClearReceived s
  | .unknownKindReceived => Sys2Proof.Machine.execUnknownKindReceived s
  | .attemptStart => Sys2Proof.Machine.execAttemptStart s
  | .frameSent => Sys2Proof.Machine.execFrameSent s
  | .collision => Sys2Proof.Machine.execCollision s
  | .jamEnd => Sys2Proof.Machine.execJamEnd s
  | .backoffEnd => Sys2Proof.Machine.execBackoffEnd s
  | .stuckLimit => Sys2Proof.Machine.execStuckLimit s
  | .stuckRelease => Sys2Proof.Machine.execStuckRelease s
  | .deferDeadline => Sys2Proof.Machine.execDeferDeadline s
  | .pulse => Sys2Proof.Machine.execPulse s
  | .absenceDeadline => Sys2Proof.Machine.execAbsenceDeadline s
  | .labelCharacter char stopLow => Sys2Proof.Machine.execLabelCharacter char stopLow s
  | .labelGap => Sys2Proof.Machine.execLabelGap s
  | .labelExpiry => Sys2Proof.Machine.execLabelExpiry s
  | .responseEnd => Sys2Proof.Machine.execResponseEnd s
  | .windowStart => Sys2Proof.Machine.execWindowStart s
  | .windowEnd => Sys2Proof.Machine.execWindowEnd s
  | .waitEnd => Sys2Proof.Machine.execWaitEnd s
  | .entryEnd => Sys2Proof.Machine.execEntryEnd s
  | .blankAllEnd => Sys2Proof.Machine.execBlankAllEnd s
  | .heldWindowExpiry => Sys2Proof.Machine.execHeldWindowExpiry s
  | .triggerInstant => Sys2Proof.Machine.execTriggerInstant s
  | .transferBegin => Sys2Proof.Machine.execTransferBegin s
  | .startComplete => Sys2Proof.Machine.execStartComplete s
  | .poll conv => Sys2Proof.Machine.execPoll conv s
  | .pollComplete levels => Sys2Proof.Machine.execPollComplete levels s
  | .resultArrival levels => Sys2Proof.Machine.execResultArrival levels s
  | .conversionDeadline conv => Sys2Proof.Machine.execConversionDeadline conv s
  | .secondClosure => Sys2Proof.Machine.execSecondClosure s
  | .probeScan => Sys2Proof.Machine.execProbeScan s
  | .askInstant => Sys2Proof.Machine.execAskInstant s
  | .countEnd => Sys2Proof.Machine.execCountEnd s
  | .alarmRelease => Sys2Proof.Machine.execAlarmRelease s
  | .statePeriodExpiry => Sys2Proof.Machine.execStatePeriodExpiry s
  | .powerOnReset => Sys2Proof.Machine.execPowerOnReset s
  | .powerOnRelease start => Sys2Proof.Machine.execPowerOnRelease start s
  | .externalReset => Sys2Proof.Machine.execExternalReset s
  | .resetPinRelease start => Sys2Proof.Machine.execResetPinRelease start s
  | .imageRead image => Sys2Proof.Machine.execImageRead image s

end Sys2Proof.Machine
end

