-- ==== Sys2Proof/Safety.lean ====
section
/-! DEFINITION. What counts as a safe node: the laws that the manual calls laws of the node, block by block. A law speaks
of one state; the statements say that every step keeps it, from any state that meets it. -/

namespace Sys2Proof.Machine

/-- The settled settings that wait for stage 5 of a start sequence, if the node stands before that stage (R184). -/
def Waiting (p : Settings → Prop) (s : State) : Prop := ∀ set, s.loader.phase = .starting (.load set) → p set.cfg

/-- The fields of the clock value stay in range (R1), the trim within its bounds (R8), the remaining slew within 8 ms
(R4; the round period is at most 16 s), and the remaining slew is 0 in FREE and HOLDOVER (R4). Settings that wait to be
loaded keep the bounds of trim and round period too. -/
def ClockLaw (s : State) : Prop :=
  s.clock.seconds < 4294967296 ∧ s.clock.nanoseconds < 1000000000 ∧ s.clock.remainder < 10000000 ∧
  s.clock.trim.natAbs ≤ 10000 ∧ s.clock.slew.natAbs ≤ 80000000000000 ∧ s.cfg.period ≤ 16 ∧
  (s.clock.state = .free ∨ s.clock.state = .holdover → s.clock.slew = 0) ∧
  Waiting (fun c => c.initialTrim.natAbs ≤ 10000 ∧ c.period ≤ 16) s

/-- One group of the gate law: an OPEN gate has no enabled flag of its group set (R169). -/
def GroupLaw (closed : Bool) (flags mask : Byte) : Prop := closed = false → flags &&& mask = 0#8

/-- The gate law of the five groups (R169). -/
def GateLaw (s : State) : Prop :=
  GroupLaw s.flag.closed.time s.flag.flags.time s.cfg.masks.time ∧
  GroupLaw s.flag.closed.line s.flag.flags.line s.cfg.masks.line ∧
  GroupLaw s.flag.closed.data s.flag.flags.data s.cfg.masks.data ∧
  GroupLaw s.flag.closed.window s.flag.flags.window s.cfg.masks.window ∧
  GroupLaw s.flag.closed.start s.flag.flags.start s.cfg.masks.start

/-- One component: its steps stay within −32 to +32, and a pending direction leads inside the limit (R110, R112). -/
def ComponentLaw (steps : Int) (dir : Option Dir) : Prop :=
  -32 ≤ steps ∧ steps ≤ 32 ∧ (dir = some .up → steps < 32) ∧ (dir = some .down → -32 < steps)

/-- The law of the compensation steps (R112), and of the start steps that wait to be loaded. -/
def StepsLaw (s : State) : Prop :=
  ComponentLaw s.acq.steps.x s.acq.pendingDir.x ∧ ComponentLaw s.acq.steps.y s.acq.pendingDir.y ∧
  ComponentLaw s.acq.steps.z s.acq.pendingDir.z ∧
  Waiting (fun c => ∀ k : Comp, -32 ≤ (c.comps.get k).startSteps ∧ (c.comps.get k).startSteps ≤ 32) s

/-- The Peer Clock Table: one row per station but the own, in a fixed place, every offset within ±10¹² ns (R23). -/
def TableLaw (s : State) : Prop :=
  s.agr.rows.map (·.station) = otherStations s.cfg.station ∧ ∀ r ∈ s.agr.rows, r.offset.natAbs ≤ 1000000000000

/-- The blanking list holds at most eight entries, no two with the same window id (R98), and at most four windows are
held (R100). -/
def ListLaw (s : State) : Prop :=
  s.win.list.length ≤ 8 ∧ (s.win.list.map (·.id)).Nodup ∧ s.win.held.length ≤ 4

/-- The ring holds at most 16,384 records (R146), the window queue at most four frames (R71), the recent-F buffer at most
64 entries (R140), and a bank at most six records (R155; 10.3). -/
def StoreLaw (s : State) : Prop :=
  s.ring.records.length ≤ 16384 ∧ s.line.queue.length ≤ 4 ∧ s.corr.recentF.length ≤ 64 ∧
  s.cfg.bankLength ≤ 6 ∧ s.ring.bank0.records.length ≤ 6 ∧ s.ring.bank1.records.length ≤ 6 ∧
  Waiting (fun c => c.bankLength ≤ 6) s

/-- The generator holds a number from 1 to 65,535 (R68), and the station, settled or strapped, is 0 to 15 (R185, R188). -/
def GeneratorLaw (s : State) : Prop :=
  1 ≤ s.line.generator ∧ s.line.generator ≤ 65535 ∧ s.cfg.station ≤ 15 ∧ s.loader.straps.station ≤ 15 ∧
  Waiting (fun c => c.station ≤ 15) s

/-- The laws of the blocks' stores, together. -/
def BlockLaws (s : State) : Prop := StepsLaw s ∧ TableLaw s ∧ ListLaw s ∧ StoreLaw s ∧ GeneratorLaw s

/-- A reset in force holds the node (R180). Until the Node Clock starts it holds 0 (R15), in FREE, no attempt is made
(R183), the sensor outputs are off (R183), and no pulse or label is taken (R51). -/
def HeldLaw (s : State) : Prop :=
  (s.loader.powerOn = true ∨ s.loader.ext = true → s.loader.phase = .held) ∧
  (s.loader.phase ≠ .running →
    s.clock.seconds = 0 ∧ s.clock.nanoseconds = 0 ∧ s.clock.remainder = 0 ∧ s.clock.slew = 0 ∧
    s.clock.state = .free ∧ s.line.attempt = none ∧ s.line.jam = none ∧ s.acq.polarizeOut = false ∧
    s.acq.countOut = false ∧ s.acq.port = none ∧ s.ref = RefInput.afterReset)

/-- A field value of a record lies within ±400,000,000 pT (R135). -/
def InField (v : Int) : Prop := v.natAbs ≤ 400000000

/-- Every field value of a record's contents lies within ±400,000,000 pT (R135, R143, R153). -/
def Body.inField : Body → Prop
  | .own v | .peer v _ => ∀ p ∈ v.value.toList, ∀ x, p = some x → InField x
  | .check f g d => InField f ∧ InField g ∧ InField d
  | .note _ => True

/-- The law of the stored field values (R135). -/
def FieldLaw (s : State) : Prop := ∀ r ∈ s.ring.records, r.body.inField

/-- A scan asks for at most 256 seconds, has collected at most 256 records and fewer while it has a next record, and its
reply holds at most six (R159 to R161). -/
def ScanLaw (s : State) : Prop :=
  ∀ sc, s.ring.scan = some sc →
    sc.count ≤ 256 ∧ sc.collected ≤ 256 ∧ (sc.nextRecord ≠ none → sc.collected < 256) ∧
    ∀ r, sc.reply = some r → r.records.length ≤ 6

/-! ### The order of the node's own records (R124, R151) and of the recent-F buffer (R140) -/

/-- The node time that a record's tag names (R1, R148). -/
def tagOf (r : Record) : NodeTime := r.seconds % 4294967296 * 1000000000 + r.millis * 1000000

/-- An OWN record, or a RESET note. -/
def OwnOrReset (r : Record) : Prop :=
  match r.body with
  | .own _ => True
  | .note (.reset _) => True
  | .peer _ _ | .check _ _ _ | .note (.step _) | .note (.timebase _) | .note (.comp _ _) => False

/-- Of the node's own records between two RESET notes, each has a later tag than the one before it (R151, by the order of
R2). -/
def OwnOrder (records : List Record) : Prop :=
  ∀ (before between behind : List Record) (a b : Record) (v w : Values),
    records = before ++ a :: between ++ b :: behind → a.body = .own v → b.body = .own w →
    (∀ r ∈ between, ¬ OwnOrReset r) → later (tagOf b) (tagOf a) = true

/-- The newest own record that no RESET note follows. -/
def NewestOwn (records : List Record) (a : Record) : Prop :=
  ∃ (before behind : List Record) (v : Values),
    records = before ++ a :: behind ∧ a.body = .own v ∧ ∀ r ∈ behind, ¬ OwnOrReset r

/-- The law of the own records' tags (R151), with what keeps it: a scalar cycle belongs to a SCALAR node alone (R118);
the second being gathered is later than the last closed (R124); and from the RESET note on, the newest own record is
that of the last closed second, or of the last reading handed over (R121, R129). -/
def TagLaw (s : State) : Prop :=
  OwnOrder s.ring.records ∧
  (s.cfg.role ≠ .scalar →
    s.acq.measuring = none ∧ s.acq.reading = none ∧ ∀ cycle, s.win.own.cause ≠ .polarize cycle) ∧
  (∀ g l, s.acq.gathering = some g → s.acq.lastClosed = some l → 0 < secondsDifference g.second l) ∧
  (s.loader.phase = .running ∨ s.loader.phase = .starting .clock → ∀ a, NewestOwn s.ring.records a →
    (s.cfg.role = .vector ∧ ∃ l, s.acq.lastClosed = some l ∧ secondsDifference l a.seconds = 0 ∧ a.millis = 0) ∨
    (s.cfg.role = .scalar ∧ ∃ l, s.acq.lastTag = some l ∧ diff l (tagOf a) = 0))

/-- The recent-F buffer stands in order of second, oldest first, with no second twice (R140, by the order of R2). -/
def BufferLaw (s : State) : Prop := s.corr.recentF.Pairwise fun a b => 0 < secondsDifference b.1 a.1

/-! ## What the statements speak of -/

/-- A whole good frame of another attempt than this node's stands in the receiver of a started node (R61, R62). -/
def Heard (r : Reception) (s : State) : Prop :=
  s.running = true ∧ s.line.reception = some r ∧ r.own = false ∧ r.whole = true ∧ checkPasses r.chars = true

/-- The kind, the sender and the payload of a reception's frame. -/
def kindOf (r : Reception) : Byte := (frameOf r.chars).kind
def senderOf (r : Reception) : Nat := (frameOf r.chars).station
def payloadOf (r : Reception) : List Byte := (frameOf r.chars).payload

/-- The eight kinds with the commands that deliver them (R62, R195). -/
def receivedKinds : List (Instr × Byte) :=
  [(.markReceived, 1#8), (.blockReceived, 2#8), (.stateReceived, 3#8), (.askReceived, 4#8), (.deferReceived, 5#8),
   (.withdrawReceived, 6#8), (.recallReceived, 7#8), (.clearReceived, 8#8)]

/-- The state once the reception has ended and nothing more (R61). -/
def ended (s : State) : State := { s with line := { s.line with reception := none, ready := false } }

/-- The quantity a clock value stands for, su (R1). -/
def Clock.quantity (k : Clock) : Nat := (k.seconds * 1000000000 + k.nanoseconds) * 10000000 + k.remainder

/-- An instant of a pattern: a multiple of the period, plus the offset (R17, R18, R118). -/
def OnPattern (period : Nat) (offset : Int) (n : NodeTime) : Prop :=
  n < 4294967296000000000 ∧ plus n (-offset) % period = 0

/-- n is the first instant of a pattern later than the reading, other than the one last taken (R18, R19, R125). -/
def FirstAfter (period : Nat) (offset : Int) (reading : NodeTime) (taken : Option NodeTime) (n : NodeTime) : Prop :=
  OnPattern period offset n ∧ later n reading = true ∧ taken ≠ some n ∧
  ∀ m, OnPattern period offset m → later m reading = true → diff m reading < diff n reading → taken = some m

/-- n is the first instant of a pattern at or later than the reading (R124). -/
def FirstFrom (period : Nat) (offset : Int) (reading n : NodeTime) : Prop :=
  OnPattern period offset n ∧ notBefore n reading = true ∧
  ∀ m, OnPattern period offset m → notBefore m reading = true → diff n reading ≤ diff m reading

/-- A note of this node, tagged with its reading and carrying its timebase state (R12, R148). -/
def noteOf (n : Note) (s : State) : Record :=
  { station := s.cfg.station, role := s.cfg.role, seconds := s.clock.seconds,
    millis := s.reading % 1000000000 / 1000000, timebase := s.clock.state, flags := RecordFlags.noFlags,
    body := .note n }

/-- What a correction over an interval makes of a clock: a step (R7) or a slew (R8), as R6 decides. -/
def Applied (c : Int) (interval : Nat) (k k' : Clock) : Prop :=
  if k.state = .free ∨ 500000 * interval < c.natAbs then
    k'.reading = plus k.reading c ∧ k'.nanoseconds < 1000000000 ∧ k'.remainder = k.remainder ∧ k'.trim = k.trim ∧
      k'.slew = 0
  else
    k'.seconds = k.seconds ∧ k'.nanoseconds = k.nanoseconds ∧ k'.remainder = k.remainder ∧ k'.slew = c * 10000000 ∧
      k'.trim = clampTo (-10000) 10000 (k.trim + towardZero c (16 * interval))

/-- Byte i of those that the node takes from the data input's levels at the edges of the port clock: sixteen edges a byte,
a bit at each rising one, the first bit the most significant, and the pulled-up level where none is given (R199). -/
def byteTaken (i : Nat) (levels : List Bool) : Nat :=
  (List.range 8).foldl (fun v j => 2 * v + if levels.getD (16 * i + 2 * j) true then 1 else 0) 0

/-- The count the field converter gives, two's complement over 24 bits, most significant byte first (R199). -/
def countOf (b2 b1 b0 : Nat) : Int :=
  let n : Int := 65536 * b2 + 256 * b1 + b0
  if n < 8388608 then n else n - 16777216

/-- q is num over den rounded half away from zero: no other whole number is nearer, and of two equally near ones it is
the one farther from zero (00, Conventions). -/
def HalfAway (num : Int) (den : Nat) (q : Int) : Prop :=
  2 * (num - q * den).natAbs ≤ den ∧ (2 * (num - q * den).natAbs = den → num.natAbs < (q * den).natAbs)

/-- The field limit held on a value (R135). -/
def Limited (v w : Int) : Prop :=
  w = if v < -400000000 then -400000000 else if 400000000 < v then 400000000 else v

/-- The temperature of a held count at a probe (R131). -/
def Temperature (p : ProbeSettings) (count : Nat) (temperature : Int) : Prop :=
  ∃ q, HalfAway ((count : Int) * p.span) 65536 q ∧
    temperature = if p.origin + q < -5000 then -5000 else if 7000 < p.origin + q then 7000 else p.origin + q

/-- The corrected value of a component's mean at a temperature state, and whether its table gave it at an end: with no
temperature the mean itself, else the mean less the table's offset and scale term (R132, R133, R135). -/
def CorrectedValue (cfg : Settings) (c : CompSettings) (state : TempState) (mean value : Int) (edge : Bool) : Prop :=
  (state = .noTemp → Limited mean value ∧ edge = false) ∧
  ∀ n, state = .good n ∨ state = .held n ∨ state = .stale n →
    ∃ temperature term, Temperature (cfg.probe c.probe) n temperature ∧
      HalfAway (mean * (lookUp c.table temperature).2.1) 100000000 term ∧
      Limited (mean - (lookUp c.table temperature).1 - term) value ∧ edge = (lookUp c.table temperature).2.2

/-- The temperature field of a record closed at an instant: the temperature of probe 0's count, absent without one
(R132). -/
def RecordTemperature (s : State) (instant : NodeTime) (field : Option Int) : Prop :=
  ((s.acq.probe 0).stateAt instant = .noTemp → field = none) ∧
  ∀ n, (s.acq.probe 0).stateAt instant ∈ [.good n, .held n, .stale n] →
    ∃ temperature, Temperature (s.cfg.probe 0) n temperature ∧ field = some temperature

/-- The tag of a scalar reading or of a skipped cycle is later than that of the last own record since reset, or there is
none: it is handed over, and else discarded (R121, R122). -/
def Hands (tag : NodeTime) (s : State) : Prop :=
  ∀ last, s.acq.lastTag = some last → later (tag - tag % 1000000) last = true

/-- One OWN record of a SCALAR node's reading is committed, with this tag, marks and value, the STEPPED marker is taken,
and the tag is kept (R121, R122, R136 to R139). -/
def HandedOver (tag : NodeTime) (disturbed missing skipped saturated : Bool) (value : Option Int) (s t : State) : Prop :=
  ∃ (r : Record) (w : Values), t.ring.records = s.ring.records ++ [r] ∧ r.body = .own w ∧
    r.station = s.cfg.station ∧ r.role = s.cfg.role ∧ r.timebase = s.clock.state ∧
    r.seconds = tag / 1000000000 ∧ r.millis = tag % 1000000000 / 1000000 ∧
    r.flags.disturbed = disturbed ∧ r.flags.missing = missing ∧ r.flags.skipped = skipped ∧
    r.flags.saturated = saturated ∧ r.flags.stepped = s.acq.stepped ∧ r.flags.blanked = false ∧
    r.flags.partly = false ∧
    w.value = { x := value, y := none, z := none } ∧ w.valid = { x := if value.isSome then 10 else 0, y := 0, z := 0 } ∧
    RecordTemperature s s.reading w.temperature ∧
    t.acq.stepped = false ∧ t.acq.lastTag = some (tag - tag % 1000000)

/-- What stages 3 to 8 of a start leave, from the settled settings and the verdict: every block after reset with these
settings, the steps at the start steps, the START flags, the RESET note, the STATE period timer, the Node Clock started
(R175, R179, R184, R192, R193). -/
def Started (verdict : Verdict) (set : Settled) (s t : State) : Prop :=
  t.pending = s.pending ∧ t.tick = s.tick ∧ t.cfg = set.cfg ∧
  t.loader =
    { s.loader with phase := .running, verdict := verdict, lastCause := s.loader.pendingCause, image := [] } ∧
  t.clock = { seconds := 0, nanoseconds := 0, remainder := 0, trim := set.cfg.initialTrim, slew := 0, state := .free } ∧
  t.ref = RefInput.afterReset ∧ t.agr = Agreement.afterReset set.cfg ∧ t.win = WindowUnit.afterReset ∧
  t.corr = Correction.afterReset ∧
  t.line = { LineUnit.afterReset set.cfg with stateSlot := t.line.stateSlot } ∧
  t.acq = Acquisition.afterReset set.cfg (set.cfg.comps.map (·.startSteps)) ∧
  t.flag.stateTimer = some (s.tick + set.cfg.statePeriod * 10000000) ∧
  t.flag.flags.start = (match s.loader.pendingCause with | .powerOn => 1#8 | .external => 2#8) |||
    (if verdict = .defaults then 4#8 else 0#8) ||| (if set.clamped then 8#8 else 0#8) ∧
  (s.ring.records.length < 16384 →
    t.flag.flags.time = 0#8 ∧ t.flag.flags.line = 0#8 ∧ t.flag.flags.data = 0#8 ∧ t.flag.flags.window = 0#8 ∧
    t.ring = { s.ring with
      records := s.ring.records ++
        [{ station := set.cfg.station, role := set.cfg.role, seconds := 0, millis := 0, timebase := .free
           flags := RecordFlags.noFlags, body := .note (.reset s.loader.pendingCause) }] })

/-- The ranges of 10.3 and the derived settings (R188, R189, R190). -/
def InRange (c : Settings) : Prop :=
  (c.station ≤ 15 ∧ c.role ≠ .logger ∧ c.period ∈ [2, 4, 8, 16] ∧ c.receiveDelay ≤ 65535 ∧
    -10000 ≤ c.initialTrim ∧ c.initialTrim ≤ 10000 ∧ 10000 ≤ c.exclusion ∧ c.exclusion ≤ 100000000 ∧
    10000 ≤ c.spreadLimit ∧ c.spreadLimit ≤ 100000000 ∧ 100 ≤ c.deltaLimit ∧ c.deltaLimit ≤ 1000000 ∧
    1 ≤ c.minSamples ∧ c.minSamples ≤ 10 ∧ 100000 ≤ c.stepSize ∧ c.stepSize ≤ 5000000) ∧
  (50 ≤ c.settle ∧ c.settle ≤ 1000 ∧ 2 ≤ c.cycle ∧ c.cycle ≤ 60 ∧ 10 ≤ c.polarize ∧ c.polarize ≤ 3000 ∧
    100 ≤ c.count ∧ c.count ≤ 2000 ∧ 1 ≤ c.bankLength ∧ c.bankLength ≤ 6 ∧ 10 ≤ c.statePeriod ∧
    c.statePeriod ≤ 600) ∧
  (∀ k ∈ c.comps.toList, 1 ≤ k.factor ∧ k.factor ≤ 20000 ∧ -32 ≤ k.startSteps ∧ k.startSteps ≤ 32 ∧ k.probe ≤ 3 ∧
    k.table.length ≤ 16 ∧ k.table.Pairwise (fun a b => a.temperature < b.temperature) ∧
    ∀ b ∈ k.table, -5000 ≤ b.temperature ∧ b.temperature ≤ 7000 ∧ -1000000 ≤ b.offset ∧ b.offset ≤ 1000000 ∧
      -10000 ≤ b.scale ∧ b.scale ≤ 10000) ∧
  (c.probes.length = 4 ∧ ∀ p ∈ c.probes, -10000 ≤ p.origin ∧ p.origin ≤ 10000 ∧ 1 ≤ p.span ∧ p.span ≤ 30000) ∧
  (c.compAffect.getLsbD c.station = true ∧ c.listen.getLsbD c.station = false ∧
    ∀ p, c.partner = some p → p ≤ 15 ∧ p ≠ c.station ∧ c.listen.getLsbD p = true) ∧
  (c.masks.time &&& 0xC0#8 = 0#8 ∧ c.masks.line &&& 0xE0#8 = 0#8 ∧ c.masks.data &&& 0x80#8 = 0#8 ∧
    c.masks.window &&& 0xF0#8 = 0#8 ∧ c.masks.start &&& 0xF0#8 = 0#8)

/-- The number in the n bytes of an image from place k, least significant byte first (R194). -/
def placed (k n : Nat) (img : List Byte) : Nat :=
  (List.range n).foldr (fun i v => (img.getD (k + i) 0).toNat + 256 * v) 0

/-- That number taken as two's complement (R194). -/
def placedSigned (k n : Nat) (img : List Byte) : Int :=
  if placed k n img < 2 ^ (8 * n - 1) then placed k n img else (placed k n img : Int) - (2 ^ (8 * n) : Nat)

/-- A number settled into its range by the nearer end (R188). -/
def Settles (lo hi read value : Int) : Prop := value = if read < lo then lo else if hi < read then hi else read

/-- The breakpoints of an image's table of component n, as read, within its count (R189, R198). -/
def placedTable (n : Nat) (img : List Byte) : List Breakpoint :=
  (List.range (min (placed (77 + 129 * n) 1 img) 16)).map fun i =>
    { temperature := placedSigned (78 + 129 * n + 8 * i) 2 img, offset := placedSigned (80 + 129 * n + 8 * i) 4 img
      scale := placedSigned (84 + 129 * n + 8 * i) 2 img }

/-- A table settled from what was read: each field clamped, and the longest part that rises from the first breakpoint on
(R189). -/
def TableSettled (read table : List Breakpoint) : Prop :=
  ∃ fields, List.Forall₂ (fun a b => Settles (-5000) 7000 a.temperature b.temperature ∧
      Settles (-1000000) 1000000 a.offset b.offset ∧ Settles (-10000) 10000 a.scale b.scale) read fields ∧
    table <+: fields ∧ table.Pairwise (fun a b => a.temperature < b.temperature) ∧
    (∀ a, fields.head? = some a → table.head? = some a) ∧
    ∀ last next, table.getLast? = some last → fields[table.length]? = some next → next.temperature ≤ last.temperature

/-- The settings of one component, number n, from an image (R188, R189, R198). -/
def CompSettled (n : Nat) (img : List Byte) (c : CompSettings) : Prop :=
  Settles 1 20000 (placed (26 + 4 * n) 2 img) c.factor ∧ Settles (-32) 32 (placedSigned (28 + 4 * n) 1 img) c.startSteps ∧
  Settles 0 3 (placed (29 + 4 * n) 1 img) c.probe ∧ TableSettled (placedTable n img) c.table

/-- Every field is as the image's bytes give it, clamped by R188 and R189 and derived from by R190. -/
def FieldsSettled (img : List Byte) (c : Settings) : Prop :=
  (Settles 0 15 (placed 3 1 img) c.station ∧
    c.role = (if placed 4 1 img = 0 then .vector else if placed 4 1 img = 1 then .scalar else .timing) ∧
    (let p := placed 5 1 img; c.period = if 16 ≤ p then 16 else if 8 ≤ p then 8 else if 4 ≤ p then 4 else 2) ∧
    c.receiveDelay = placed 6 2 img ∧ Settles (-10000) 10000 (placedSigned 8 2 img) c.initialTrim ∧
    Settles 10000 100000000 (placed 10 4 img) c.exclusion ∧ Settles 10000 100000000 (placed 14 4 img) c.spreadLimit ∧
    (∀ k < 16, c.listen.getLsbD k = true ↔
      c.partner = some k ∨ (k ≠ c.station ∧ (placed 18 2 img).testBit k = true)) ∧
    c.partner = (if placed 20 1 img ≤ 15 ∧ placed 20 1 img ≠ c.station then some (placed 20 1 img) else none) ∧
    Settles 100 1000000 (placed 21 4 img) c.deltaLimit ∧ Settles 1 10 (placed 25 1 img) c.minSamples) ∧
  (CompSettled 0 img c.comps.x ∧ CompSettled 1 img c.comps.y ∧ CompSettled 2 img c.comps.z ∧
    Settles 100000 5000000 (placed 38 4 img) c.stepSize ∧ c.probes.length = 4 ∧
    ∀ j p, c.probes[j]? = some p →
      Settles (-10000) 10000 (placedSigned (42 + 4 * j) 2 img) p.origin ∧
      Settles 1 30000 (placed (44 + 4 * j) 2 img) p.span) ∧
  (Settles 50 1000 (placed 58 2 img) c.settle ∧
    (∀ k < 16, c.compAffect.getLsbD k = true ↔ k = c.station ∨ (placed 60 2 img).testBit k = true) ∧
    (∀ k < 16, c.polarizeAffect.getLsbD k = (placed 62 2 img).testBit k) ∧
    Settles 2 60 (placed 64 1 img) c.cycle ∧ Settles 10 3000 (placed 65 2 img) c.polarize ∧
    Settles 100 2000 (placed 67 2 img) c.count ∧ Settles 1 6 (placed 69 1 img) c.bankLength ∧
    Settles 10 600 (placed 70 2 img) c.statePeriod ∧
    c.masks = { time := img.getD 72 0 &&& 0x3F#8, line := img.getD 73 0 &&& 0x1F#8, data := img.getD 74 0 &&& 0x7F#8
                window := img.getD 75 0 &&& 0x0F#8, start := img.getD 76 0 &&& 0x0F#8 })

/-- Every field that R188 and R189 may clamp, and every table that R189 may cut, was settled to just what was read. -/
def NothingClamped (img : List Byte) (c : Settings) : Prop :=
  c.station = placed 3 1 img ∧ placed 4 1 img ≤ 2 ∧ c.period = placed 5 1 img ∧
  c.initialTrim = placedSigned 8 2 img ∧ c.exclusion = placed 10 4 img ∧ c.spreadLimit = placed 14 4 img ∧
  c.partner.getD 255 = placed 20 1 img ∧ c.deltaLimit = placed 21 4 img ∧ c.minSamples = placed 25 1 img ∧
  c.stepSize = placed 38 4 img ∧ c.settle = placed 58 2 img ∧ c.cycle = placed 64 1 img ∧
  c.polarize = placed 65 2 img ∧ c.count = placed 67 2 img ∧ c.bankLength = placed 69 1 img ∧
  c.statePeriod = placed 70 2 img ∧
  (∀ j p, c.probes[j]? = some p → p.origin = placedSigned (42 + 4 * j) 2 img ∧ p.span = placed (44 + 4 * j) 2 img) ∧
  ∀ k : Comp, (c.comps.get k).factor = placed (26 + 4 * k.number) 2 img ∧
    (c.comps.get k).startSteps = placedSigned (28 + 4 * k.number) 1 img ∧
    (c.comps.get k).probe = placed (29 + 4 * k.number) 1 img ∧ placed (77 + 129 * k.number) 1 img ≤ 16 ∧
    (c.comps.get k).table = placedTable k.number img

/-- Commands of a reset or of the start sequence: the only ones that settle the settings (00; 10.4). -/
def restarts : Instr → Bool
  | .powerOnReset | .powerOnRelease _ | .externalReset | .resetPinRelease _ | .imageRead _ => true
  | .oscillatorTick _ | .roundEnd | .markInstant | .leadEdge | .receiverReady | .receptionTruncated | .checkFailed
  | .markReceived | .blockReceived | .stateReceived | .askReceived | .deferReceived | .withdrawReceived
  | .recallReceived | .clearReceived | .unknownKindReceived | .attemptStart | .frameSent | .collision | .jamEnd
  | .backoffEnd | .stuckLimit | .stuckRelease | .deferDeadline | .pulse | .absenceDeadline | .labelCharacter _ _
  | .labelGap | .labelExpiry | .responseEnd | .windowStart | .windowEnd | .waitEnd | .entryEnd | .blankAllEnd
  | .heldWindowExpiry | .triggerInstant | .transferBegin | .startComplete | .poll _ | .pollComplete _
  | .resultArrival _ | .conversionDeadline _ | .secondClosure | .probeScan | .askInstant | .countEnd | .alarmRelease
  | .statePeriodExpiry => false

/-- Commands that may hand the Node Clock a request (R5): a round end, a pulse, the absence deadline. -/
def disciplines : Instr → Bool
  | .roundEnd | .pulse | .absenceDeadline => true
  | .powerOnReset | .powerOnRelease _ | .externalReset | .resetPinRelease _ | .imageRead _
  | .oscillatorTick _ | .markInstant | .leadEdge | .receiverReady | .receptionTruncated | .checkFailed
  | .markReceived | .blockReceived | .stateReceived | .askReceived | .deferReceived | .withdrawReceived
  | .recallReceived | .clearReceived | .unknownKindReceived | .attemptStart | .frameSent | .collision | .jamEnd
  | .backoffEnd | .stuckLimit | .stuckRelease | .deferDeadline | .labelCharacter _ _
  | .labelGap | .labelExpiry | .responseEnd | .windowStart | .windowEnd | .waitEnd | .entryEnd | .blankAllEnd
  | .heldWindowExpiry | .triggerInstant | .transferBegin | .startComplete | .poll _ | .pollComplete _
  | .resultArrival _ | .conversionDeadline _ | .secondClosure | .probeScan | .askInstant | .countEnd | .alarmRelease
  | .statePeriodExpiry => false

end Sys2Proof.Machine
end

