-- ==== Sys2Proof/WellFormed.lean ====
section
/-! DEFINITION. Which commands are well formed: the operands lie in the ranges of their pins and transfers. A meaning is
total all the same: levels that are missing read as the pulled-up level (R186, R199), levels too many are not taken,
and straps are taken by their pins' bits. -/

namespace Sys2Proof

/-- Four station pins and two role pins (R185). -/
def Straps.wellFormed (p : Straps) : Bool :=
  decide (p.station < 16) && decide (p.role < 4)

/-- Each byte taken has 16 edges of the port clock; a poll takes one byte, a converter read at most four (R199), and the
whole image is at most 1,024 bytes (R186); a start sequence has eight stages (R184). -/
def Instr.wellFormed : Instr → Bool
  | .pollComplete levels => decide (levels.length ≤ 16)
  | .resultArrival levels => decide (levels.length ≤ 64)
  | .imageRead i => decide (i.levels.length ≤ 16384) && decide (2 ≤ i.through) && decide (i.through ≤ 8)
  | .powerOnRelease b | .resetPinRelease b => b.straps.wellFormed && decide (1 ≤ b.through) && decide (b.through ≤ 8)
  | .oscillatorTick _ | .roundEnd | .markInstant | .leadEdge | .receiverReady | .receptionTruncated | .checkFailed
  | .markReceived | .blockReceived | .stateReceived | .askReceived | .deferReceived | .withdrawReceived
  | .recallReceived | .clearReceived | .unknownKindReceived | .attemptStart | .frameSent | .collision | .jamEnd
  | .backoffEnd | .stuckLimit | .stuckRelease | .deferDeadline | .pulse | .absenceDeadline | .labelCharacter _ _
  | .labelGap | .labelExpiry | .responseEnd | .windowStart | .windowEnd | .waitEnd | .entryEnd | .blankAllEnd
  | .heldWindowExpiry | .triggerInstant | .transferBegin | .startComplete | .poll _
  | .conversionDeadline _ | .secondClosure | .probeScan | .askInstant | .countEnd | .alarmRelease
  | .statePeriodExpiry | .powerOnReset | .externalReset => true

end Sys2Proof
end

