-- ==== Sys2Proof/Certificates/Slice0/Obligations.lean ====
section
/-! DEFINITION. The statements for the provers, from the numbered rules of spec/. -/

open Sys2Proof Sys2Proof.Machine

/-! ## The whole node -/

/-- A step takes the command at the front of the queue and runs it on the rest. With none waiting, a node in its start
sequence takes the stage that is next (R184), and any other idles (the model's choice, log entries 5 and 7). -/
def Obligations.StepTakesTheFrontCommand : Prop :=
  (∀ (c : Instr) (rest : List Instr) (s : State), s.pending = c :: rest → step s = exec c (s.withPending rest)) ∧
  (∀ s : State, s.pending = [] → (∀ next, s.loader.phase ≠ .starting next) → step s = .next s) ∧
  ∀ s : State, s.pending = [] → (∃ next, s.loader.phase = .starting next) → step s = .next (takeStage s)

/-- No command stops the node, and none touches the commands that wait behind it. That a command whose event is not due
completes as well, with no effect, is the model's choice (log entry 1); this gives no command's own effect. -/
def Obligations.EveryCommandCompletes : Prop :=
  ∀ (c : Instr) (s : State), ∃ t, exec c s = .next t ∧ t.pending = s.pending

/-- What a command may change, resets and the start sequence apart: none changes the settings (R77, R104, R127, R168);
only ticks change the tick count and the Start Loader; only ticks, round ends, pulses and the absence deadline change
the clock (R4, R5, R8, R9); only round ends, pulses, the absence deadline and the label's events change the Reference
Input, but for the label input's start bit, which a tick takes (log entry 16); only round ends, MARK instants, lead
edges, received MARKs and pulses change the Agreement Unit; only received BLOCKs and closures change the Correction
Unit (R21, R36, R50, R140, R144). -/
def Obligations.OnlyTheseChangeTheBlocks : Prop :=
  ∀ (c : Instr) (s t : State), restarts c = false → exec c s = .next t →
    t.cfg = s.cfg ∧
    ((∀ pins, c ≠ .oscillatorTick pins) → t.tick = s.tick ∧ t.loader = s.loader) ∧
    (disciplines c = false → (∀ pins, c ≠ .oscillatorTick pins) → t.clock = s.clock) ∧
    ((∀ char stopLow, c ≠ .labelCharacter char stopLow) →
      c ∉ [.roundEnd, .pulse, .absenceDeadline, .labelGap, .labelExpiry] →
      t.ref = { s.ref with pinLow := t.ref.pinLow, charBegun := t.ref.charBegun, labelRx := t.ref.labelRx } ∧
      ((∀ pins, c ≠ .oscillatorTick pins) → t.ref = s.ref)) ∧
    (c ∉ [.roundEnd, .markInstant, .leadEdge, .markReceived, .pulse] → t.agr = s.agr) ∧
    (c ∉ [.blockReceived, .secondClosure] → t.corr = s.corr)

/-- The timebase states: FREE is entered only at reset, and REFERENCED is left, but for a reset, only for HOLDOVER, at a
pulse or at the absence deadline (R10, R45). -/
def Obligations.TimebaseTransitions : Prop :=
  ∀ (c : Instr) (s t : State), restarts c = false → exec c s = .next t →
    (t.clock.state = .free → s.clock.state = .free) ∧
    (s.clock.state = .referenced → t.clock.state ≠ .referenced →
      t.clock.state = .holdover ∧ (c = .pulse ∨ c = .absenceDeadline))

/-- A node whose line state is SILENT, MUTED or STUCK starts no transmission (R53). -/
def Obligations.NoStartUnlessActive : Prop :=
  ∀ (c : Instr) (s t : State), s.line.state ≠ .active → s.line.attempt = none → exec c s = .next t →
    t.line.attempt = none

/-- Until the Node Clock starts, only ticks, the alarm's release, resets and the start sequence do anything (R183). -/
def Obligations.HeldNodeTakesNothing : Prop :=
  ∀ (c : Instr) (s : State), s.loader.phase ≠ .running → restarts c = false → (∀ pins, c ≠ .oscillatorTick pins) →
    c ≠ .alarmRelease → exec c s = .next s

/-! ## The laws of the node, kept by every step from any state that meets them -/

/-- The clock's fields stay in their ranges (R1), the trim within ±10,000 ppb (R8), the remaining slew within 8 ms and 0
in FREE and HOLDOVER (R4), at every step from any state where they are so; settings that wait to be loaded included. -/
def Obligations.StepKeepsClockLaw : Prop := ∀ s t : State, ClockLaw s → step s = .next t → ClockLaw t

/-- An OPEN gate has no enabled flag of its group set (R169): kept by every step from any state where it is so. -/
def Obligations.StepKeepsGateLaw : Prop := ∀ s t : State, GateLaw s → step s = .next t → GateLaw t

/-- Kept by every step: the compensation steps within ±32 (R112), the Peer Clock Table's rows and offsets (R23), the
sizes of the blanking list and the held windows with no window id twice in the list (R98, R100; not the order of the
entries, since starts half a circle apart have none), the sizes of the stores (R71, R140, R146, R155), and the ranges of
the generator and the station (R68, R185, R188). -/
def Obligations.StepKeepsBlockLaws : Prop := ∀ s t : State, BlockLaws s → step s = .next t → BlockLaws t

/-- A reset in force holds the node (R180), and until the Node Clock starts it holds 0 in FREE (R15), no attempt is made
and the sensor outputs are off (R183), and no pulse or label is taken (R51): kept by every step. -/
def Obligations.StepKeepsHeldLaw : Prop := ∀ s t : State, HeldLaw s → step s = .next t → HeldLaw t

/-- Kept by every step: every field value in the ring lies within ±400,000,000 pT (R135, R143, R153), and the scan asks
for at most 256 seconds, collects at most 256 records and replies with at most six (R159, R160, R161); between two
RESET notes each own record's tag is later than the one before it, by the order of R2 (R124, R151); and the recent-F
buffer stands in order of second, with no second twice, as long as the second being gathered is later than each second
of the buffer, as R2 takes it (R140; seconds half a circle apart have no order). -/
def Obligations.StepKeepsRingLaws : Prop :=
  (∀ s t : State, FieldLaw s → ScanLaw s → step s = .next t → FieldLaw t ∧ ScanLaw t) ∧
  (∀ s t : State, TagLaw s → step s = .next t → TagLaw t) ∧
  ∀ s t : State, BufferLaw s →
    (∀ g e, s.acq.gathering = some g → e ∈ s.corr.recentF → 0 < secondsDifference g.second e.1) →
    step s = .next t → BufferLaw t

/-- Every law holds of the node as a power-on reset begins. The settings that the held node shows are the model's
choice (log entry 4). -/
def Obligations.ResetMeetsTheLaws : Prop :=
  ClockLaw State.reset ∧ GateLaw State.reset ∧ BlockLaws State.reset ∧ HeldLaw State.reset ∧ FieldLaw State.reset ∧
    ScanLaw State.reset ∧ TagLaw State.reset ∧ BufferLaw State.reset

/-! ## Node times and the Node Clock (01) -/

/-- The difference, the order and the sum of node times (R2). -/
def Obligations.NodeTimesOnTheCircle : Prop :=
  ∀ (a b : Nat) (c : Int), a < 4294967296000000000 → b < 4294967296000000000 →
    (-2147483648000000000 ≤ diff a b ∧ diff a b < 2147483648000000000 ∧
      (4294967296000000000 : Int) ∣ (a : Int) - (b : Int) - diff a b) ∧
    (later a b = true ↔ 0 < diff a b) ∧ (notBefore a b = false ↔ diff a b < 0) ∧
    plus a c < 4294967296000000000 ∧ (4294967296000000000 : Int) ∣ (plus a c : Int) - ((a : Int) + c) ∧
    (-2147483648000000000 ≤ c → c < 2147483648000000000 → diff (plus a c) a = c)

/-- A tick of a started node moves the clock by 100 ns, the trim and the slew portion, every field in range, and takes
the portion from the remaining slew (R3, R4); it leaves every other block's own state, but for the line (R52), the label
input's start bit (log entry 16), and the two holds of the model, waitHold and scanHold, which a tick clears (log entry
9). -/
def Obligations.TickAdvancesTheClock : Prop :=
  ∀ (pins : TickPins) (s : State), s.running = true → ClockLaw s →
    ∃ t, exec (.oscillatorTick pins) s = .next t ∧
      (let p : Int := if s.clock.slew < -500000 then -500000 else if 500000 < s.clock.slew then 500000 else s.clock.slew
       t.clock.slew = s.clock.slew - p ∧
       (42949672960000000000000000 : Int) ∣
         (t.clock.quantity : Int) - ((s.clock.quantity : Int) + 1000000000 + s.clock.trim + p)) ∧
      t.clock.seconds < 4294967296 ∧ t.clock.nanoseconds < 1000000000 ∧ t.clock.remainder < 10000000 ∧
      t.clock.trim = s.clock.trim ∧ t.clock.state = s.clock.state ∧
      t.tick = s.tick + 1 ∧
      t.ref = { s.ref with pinLow := t.ref.pinLow, charBegun := t.ref.charBegun, labelRx := t.ref.labelRx } ∧
      t.agr = s.agr ∧ t.corr = s.corr ∧ t.ring = s.ring ∧ t.flag = s.flag ∧
      t.cfg = s.cfg ∧ t.win = { s.win with waitHold := false } ∧ t.acq = { s.acq with scanHold := false } ∧
      t.line.state = s.line.state ∧ t.line.roundCount = s.line.roundCount ∧ t.line.ret = s.line.ret ∧
      t.line.ready = s.line.ready ∧ t.line.markSlot = s.line.markSlot ∧ t.line.stateSlot = s.line.stateSlot ∧
      t.line.queue = s.line.queue ∧ t.line.generator = s.line.generator

/-- A tick counts good supply in a power-on reset and low ticks of the reset pin, in every state of the node; before the
Node Clock starts it does nothing else (R180, R181, R183). -/
def Obligations.TickCountsForTheResets : Prop :=
  ∀ (pins : TickPins) (s : State), ∃ t, exec (.oscillatorTick pins) s = .next t ∧ t.tick = s.tick + 1 ∧
    t.loader = { s.loader with
      goodTicks :=
        if s.loader.powerOn then (if pins.supplyGood then s.loader.goodTicks + 1 else 0) else s.loader.goodTicks
      lowCount := if pins.resetHigh then 0 else min (s.loader.lowCount + 1) 64
      pinHigh := pins.resetHigh } ∧
    (s.running = false → t = { s with tick := t.tick, loader := t.loader })

/-- The line at one tick. What the node drives is a jam, or its attempt's characters: a start bit and 0 bits active,
lowest bit first, 1 bits and the stop bit released; the line is active when anyone drives it (R52, R63, R65, R66). A
character is taken at the middle of each bit, and its end joins the reception (R52, R61). The idle run, the stuck
timer, the jam and, in READY, the back-off are counted (R52, R57, R66, R67). An attempt's fields are fixed as they are
serialized: the MARK's time and then its state, the ASK's delay, the DEFER's defer-for (R20, R63, R78, R95). The stuck
timer held at 0 in a long idle run, and the character that ends early at a falling edge, are the model's readings (log
entry 13). -/
def Obligations.TickCountsTheLine : Prop :=
  (∀ (pins : TickPins) (s : State), s.running = true → s.line.attempt = none → s.line.jam = none →
    s.line.charRx = none → s.line.level = false →
    ∃ t, exec (.oscillatorTick pins) s = .next t ∧
      t.line = { s.line with
        level := pins.lineActive
        idleRun := if pins.lineActive then 0 else s.line.idleRun + 1
        charRx := if pins.lineActive then some { age := 1, bits := 0#8, stopLow := false } else none
        stuckTimer := if pins.lineActive = false ∧ 600 ≤ s.line.idleRun + 1 then 0 else s.line.stuckTimer + 1
        backoff := if s.line.ready then s.line.backoff.map (· - 1) else s.line.backoff }) ∧
  ∀ (pins : TickPins) (s : State), s.running = true → ∃ t, exec (.oscillatorTick pins) s = .next t ∧
    -- the level
    (∃ drives : Bool, t.line.level = (drives || pins.lineActive) ∧
      (drives = true ↔ (∃ n, s.line.jam = some n ∧ 0 < n) ∨
        ∃ a a' char, s.line.attempt = some a ∧ a.lead ≠ none ∧ t.line.attempt = some a' ∧
          (sentChars s.cfg.station s.cfg.role a.kind a.length a'.payload)[a.ticks / 200]? = some char ∧
          (a.ticks % 200 / 20 = 0 ∨
            (1 ≤ a.ticks % 200 / 20 ∧ a.ticks % 200 / 20 ≤ 8 ∧
              char.getLsbD (a.ticks % 200 / 20 - 1) = false)))) ∧
    -- the character under way
    (s.line.charRx = none →
      t.line.reception = s.line.reception ∧ t.line.idleRun = (if t.line.level then 0 else s.line.idleRun + 1) ∧
      t.line.charRx =
        if t.line.level = true ∧ s.line.level = false then some { age := 1, bits := 0#8, stopLow := false } else none) ∧
    (∀ char, s.line.charRx = some char →
      let n := char.age + 1
      let taken : CharRx :=
        { age := n
          bits := if n ∈ [30, 50, 70, 90, 110, 130, 150, 170] ∧ t.line.level = false then
              char.bits ||| (1#8 <<< ((n - 30) / 20)) else char.bits
          stopLow := if n = 190 then t.line.level else char.stopLow }
      let join (done : CharRx) (r : Reception) : Reception :=
        if r.framing = true ∨ (4 ≤ r.chars.length ∧ natAt 3 1 r.chars + 6 ≤ r.chars.length) then r
        else if done.stopLow then { r with framing := true } else { r with chars := r.chars ++ [done.bits] }
      let edge := t.line.level = true ∧ s.line.level = false ∧ 190 ≤ char.age
      t.line.idleRun = 0 ∧
      (edge → t.line.charRx = some { age := 1, bits := 0#8, stopLow := false } ∧
        t.line.reception = s.line.reception.map (join char)) ∧
      (¬ edge → 200 ≤ n → t.line.charRx = none ∧ t.line.reception = s.line.reception.map (join taken)) ∧
      (¬ edge → n < 200 → t.line.charRx = some taken ∧ t.line.reception = s.line.reception)) ∧
    -- the counts
    t.line.stuckTimer = (if 600 ≤ t.line.idleRun then 0 else s.line.stuckTimer + 1) ∧
    t.line.jam = s.line.jam.map (· - 1) ∧
    t.line.backoff = (if s.line.ready then s.line.backoff.map (· - 1) else s.line.backoff) ∧
    -- the attempt
    (s.line.attempt = none → t.line.attempt = none) ∧
    ∀ a, s.line.attempt = some a →
      (a.lead = none → t.line.attempt = some a) ∧
      ∀ cap, a.lead = some cap →
        let on : Attempt := { a with ticks := a.ticks + 1 }
        (a.item = .mark →
          let time := plus cap.reading s.agr.stepSum
          t.line.attempt = some { on with
            payload :=
              if a.ticks = 800 then leBytes 4 (time / 1000000000 : Nat) ++ leBytes 4 (time % 1000000000 : Nat)
              else if a.ticks = 2400 then
                a.payload ++ [match s.clock.state with
                  | .free => 0#8 | .referenced => 1#8 | .agreed => 2#8 | .holdover => 3#8]
              else a.payload }) ∧
        (a.item ≠ .mark → a.item ≠ .window → t.line.attempt = some on) ∧
        ∀ q qs lead, a.item = .window → s.line.queue = q :: qs → q.inAttempt = true → s.win.leadCap = some lead →
          match q.frame with
          | .ask _ _ duration affect =>
            let away : Int := match s.win.own.cause with
              | .polarize cycle => -(-(diff cycle lead) / 1000000)
              | .compStep _ | .void => 80
            let delay : Nat := if away < 80 then 80 else if 5000 < away then 5000 else away.toNat
            t.line.attempt = some (if a.ticks = 1400 then { on with
              delay := delay
              payload := a.payload ++ leBytes 2 delay ++ leBytes 2 duration ++ leBytes 2 affect.toNat } else on)
          | .defer _ _ finish guarded _ =>
            let away : Int := -(-(diff (if guarded then plus finish 20000000 else finish) lead) / 1000000)
            let wait : Nat := if away < 0 then 0 else if 60000 < away then 60000 else away.toNat
            t.line.attempt = some { on with
              payload := if a.ticks = 1000 then a.payload ++ leBytes 2 wait else a.payload }
          | .withdraw _ _ => t.line.attempt = some on

/-- What the clock makes of each of the six requests in each timebase state (R5, R6, R7, R8, R10, R11). -/
def Obligations.RequestTable : Prop :=
  ∀ (q : Request) (s : State),
    match q with
    | .round c =>
      if s.clock.state = .referenced then takeRequest q s = s
      else (takeRequest q s).clock.state = .agreed ∧ Applied c s.cfg.period s.clock (takeRequest q s).clock
    | .holdover | .loss =>
      if s.clock.state = (if q = .loss then .referenced else .agreed) then
        (takeRequest q s).clock = { s.clock with state := .holdover, slew := 0 }
      else takeRequest q s = s
    | .acquisition c =>
      (takeRequest q s).clock.state = .referenced ∧ Applied c 1 s.clock (takeRequest q s).clock
    | .tracking c | .labelStep c =>
      if s.clock.state = .referenced then
        (takeRequest q s).clock.state = .referenced ∧ Applied c 1 s.clock (takeRequest q s).clock
      else takeRequest q s = s

/-- The notes and the TIME flags of a request that is taken: the STEP note and STEPPED of a step; then the TIMEBASE
note of a change of state, REF_LOST on leaving REFERENCED, HOLDOVER on entering HOLDOVER (R11, R12, R13, R150). A
request that steps leaves the rows and timers, the Reference Input, the windows and their queue and the Acquisition
Unit as the step event leaves them, from the clock's reading after it, and one that does not step leaves them alone
(R13). -/
def Obligations.NotesOfARequest : Prop :=
  ∀ (q : Request) (s : State), q.takenIn s.clock.state = true → s.ring.records.length + 2 ≤ 16384 →
    (takeRequest q s).ring.records = s.ring.records ++
      ((q.stepMade s.cfg.period s.clock).map fun c => noteOf (.step c) (takeRequest q s)).toList ++
      (if q.result = s.clock.state then [] else [noteOf (.timebase s.clock.state) (takeRequest q s)]) ∧
    (takeRequest q s).flag.flags = { s.flag.flags with
      time := s.flag.flags.time ||| (if (q.stepMade s.cfg.period s.clock).isSome then 4#8 else 0#8) |||
        (if s.clock.state = .referenced ∧ q.result ≠ .referenced then 2#8 else 0#8) |||
        (if q.result = .holdover ∧ s.clock.state ≠ .holdover then 8#8 else 0#8) } ∧
    (∀ c, q.stepMade s.cfg.period s.clock = some c →
      let u := stepReactions c { s with clock := (takeRequest q s).clock }
      (takeRequest q s).agr = u.agr ∧ (takeRequest q s).ref = u.ref ∧ (takeRequest q s).win = u.win ∧
      (takeRequest q s).acq = u.acq ∧ (takeRequest q s).line.queue = u.line.queue ∧ (takeRequest q s).corr = s.corr) ∧
    (q.stepMade s.cfg.period s.clock = none →
      (takeRequest q s).agr = s.agr ∧ (takeRequest q s).ref = s.ref ∧ (takeRequest q s).win = s.win ∧
      (takeRequest q s).acq = s.acq ∧ (takeRequest q s).line.queue = s.line.queue ∧ (takeRequest q s).corr = s.corr)

/-- A step event moves every node time the blocks hold, restarts the acquisition run, abandons the second being
gathered and sets the STEPPED marker; the MARK, trigger, scan and ask instants are set anew from the clock's reading
(the round end in the statement after this); what holds no node time stays (R19, R36, R50, R102, R124, R125). That a
trigger and a scan instant set anew are not taken before the next tick (scanHold) is the model's choice (log entry 9),
and so is that a field conversion not yet outstanding is abandoned too (log entry 38). -/
def Obligations.StepMovesStoredTimes : Prop :=
  ∀ (c : Int) (s : State), let t := stepReactions c s
    let moved (w : Entry) : Entry := { w with start := plus w.start c, finish := plus w.finish c }
    let movedProt (p : Protected) : Protected := { p with start := plus p.start c, finish := plus p.finish c }
    t = { s with agr := t.agr, ref := t.ref, win := t.win, line := t.line, acq := t.acq } ∧
    t.agr = { s.agr with
      rows := s.agr.rows.map (fun r => { r with
        offset := if r.fresh then clampTo (-1000000000000) 1000000000000 (r.offset - c) else r.offset
        lastCapture := r.lastCapture.map (plus · c) })
      stepSum := s.agr.stepSum + c, nextRound := t.agr.nextRound, nextMark := t.agr.nextMark } ∧
    t.ref = { s.ref with
      lastPulse := s.ref.lastPulse.map (plus · c), deadline := s.ref.deadline.map (plus · c)
      label := s.ref.label.map (fun l => { l with arrival := plus l.arrival c })
      labelRx := match s.ref.labelRx with
        | .waiting => .waiting
        | .assembling chars last => .assembling chars (plus last c)
      acqCount := 0, prevError := none } ∧
    t.win = { s.win with
      own := { s.win.own with
        cause := match s.win.own.cause with
          | .polarize cycle => .polarize (plus cycle c)
          | .compStep set => .compStep set
          | .void => .void
        responseEnd := s.win.own.responseEnd.map (plus · c), start := s.win.own.start.map (plus · c)
        finish := s.win.own.finish.map (plus · c), waitEnd := s.win.own.waitEnd.map (plus · c) }
      list := s.win.list.map moved, held := s.win.held.map moved
      blankAllEnd := s.win.blankAllEnd.map (plus · c), leadCap := s.win.leadCap.map (plus · c)
      ownProt := s.win.ownProt.map movedProt, counting := s.win.counting.map movedProt } ∧
    t.line = { s.line with
      queue := s.line.queue.map fun q => { q with
        frame := match q.frame with
          | .ask id cls duration affect => .ask id cls duration affect
          | .defer w lead finish guarded marked => .defer (moved w) lead (plus finish c) guarded marked
          | .withdraw id start => .withdraw id (plus start c) } } ∧
    t.acq = { s.acq with
      gathering := none, stepped := true, scanHold := true
      nextTrigger := t.acq.nextTrigger, nextScan := t.acq.nextScan, nextAsk := t.acq.nextAsk
      conversions := { s.acq.conversions with
        fc0 := t.acq.conversions.fc0, fc1 := t.acq.conversions.fc1, fc2 := t.acq.conversions.fc2 }
      probes := s.acq.probes.map fun p => { p with lastGood := p.lastGood.map (plus · c) }
      ownWin := s.acq.ownWin.map fun w => { w with start := plus w.start c, finish := plus w.finish c }
      measuring := s.acq.measuring.map fun m =>
        { windowEnd := plus m.windowEnd c
          stage := match m.stage with
            | .polarizing => .polarizing
            | .counting openTime finish => .counting (plus openTime c) (plus finish c) }
      reading := s.acq.reading.map fun r => { r with openTime := plus r.openTime c }
      asked := s.acq.asked.map (plus · c) } ∧
    (∀ k ∈ [Converter.fc0, .fc1, .fc2],
      (s.acq.conversions.get k = none → t.acq.conversions.get k = none) ∧
      ∀ v comp smp, s.acq.conversions.get k = some v → v.job = .field comp smp →
        t.acq.conversions.get k = some { v with job := .field comp { smp with serves := .abandoned } }) ∧
    (s.cfg.period ∈ [2, 4, 8, 16] → s.cfg.station ≤ 15 → 1 ≤ s.cfg.cycle → s.cfg.cycle ≤ 60 →
      s.reading < 4294967296000000000 →
      FirstAfter (s.cfg.period * 1000000000) (s.cfg.station * (s.cfg.period * 62500000) : Nat) s.reading s.agr.lastMark
        t.agr.nextMark ∧
      FirstAfter (s.cfg.cycle * 1000000000) (-500000000) s.reading s.acq.lastAsk t.acq.nextAsk ∧
      FirstFrom 100000000 50000000 s.reading t.acq.nextTrigger ∧
      FirstFrom 250000000 125000000 s.reading t.acq.nextScan)

/-- The next round end after a step: the first round-end instant later than the reading, other than L (R18). -/
def Obligations.RoundTimerAfterAStep : Prop :=
  ∀ (cfg : Settings) (reading : NodeTime) (c : Int) (a : Agreement),
    cfg.period ∈ [2, 4, 8, 16] → reading < 4294967296000000000 →
    (let n := (a.onStep cfg reading c).nextRound
     n < 4294967296000000000 ∧ n % (cfg.period * 1000000000) = 0 ∧ later n reading = true ∧ a.lastRound ≠ some n ∧
     ∀ m : NodeTime, m < 4294967296000000000 → m % (cfg.period * 1000000000) = 0 → later m reading = true →
       diff m reading < diff n reading → a.lastRound = some m)

/-! ## The Peer Clock Table and the agreement (02) -/

/-- A MARK of another station whose state code is one of the four and whose round is not crossed is measured: the
sender's row takes the measurement, and nothing else of the table changes. Any other MARK leaves all but the reception
(R21, R22, R24). A time whose nanoseconds pass 999,999,999 is measured as it sums (the model's reading, log entry 19).
That the last capture is the reading captured, moved by no step before the commit, is the model's reading too (log
entry 23). -/
def Obligations.MarkReceivedIsMeasured : Prop :=
  ∀ (r : Reception) (s : State), Heard r s → kindOf r = 0x01#8 → senderOf r ≠ s.cfg.station →
    let time : Nat := natAt 0 4 (payloadOf r) * 1000000000 + natAt 4 4 (payloadOf r)
    let m := clampTo (-1000000000000) 1000000000000
      (diff time r.capture.reading + s.cfg.receiveDelay - towardZero r.capture.slew 10000000 - s.agr.stepSum)
    ∃ t, exec .markReceived s = .next t ∧
      match Timebase.ofCode (natAt 8 1 (payloadOf r)) with
      | some peer =>
        if s.agr.roundCrossed = false ∧ (payloadOf r).length = 9 then
          t = { ended s with
            agr := { s.agr with
              rows := s.agr.rows.map fun row =>
                if row.station = senderOf r then
                  { row with
                    state := if row.state = .excluded then .excluded else .live
                    offset := m, peer := peer, fresh := true, age := 0, lastCapture := some r.capture.reading }
                else row } }
        else t = ended s
      | none => t = ended s

/-- The members, the tier and the candidates of a round end: the candidates are exactly the members of the
highest-ranked tier present, in order of offset and then station (R26, R27, R30). -/
def Obligations.CandidatesOfARound : Prop :=
  ∀ (cfg : Settings) (own : Timebase) (roundEnd : NodeTime) (rows : List Row),
    let member (row : Row) : Prop := row.fresh = true ∧ row.state = .live ∧
      ∃ c, row.lastCapture = some c ∧ diff roundEnd c ≤ cfg.period * 1000000000
    let round := findRound cfg own roundEnd rows
    (∀ c, c ∈ round.sorted ↔
      (own.tier = round.tier ∧ c = { station := cfg.station, offset := 0 }) ∨
      ∃ row ∈ rows, member row ∧ row.peer.tier = round.tier ∧ c = { station := row.station, offset := row.offset }) ∧
    round.sorted.Pairwise (fun a b => a.offset < b.offset ∨ (a.offset = b.offset ∧ a.station ≤ b.station)) ∧
    round.sorted ≠ [] ∧
    own.tier.code ≤ round.tier.code ∧ ∀ row ∈ rows, member row → row.peer.tier.code ≤ round.tier.code

/-- Up to f candidates may be arbitrarily wrong, in either direction, without carrying the midpoint outside the range of
the correct ones (R30). -/
def Obligations.WrongCandidatesDoNotCarryTheMidpoint : Prop :=
  ∀ (cs : List Candidate) (lo hi : Int), cs ≠ [] →
    (cs.filter fun c => decide (c.offset < lo ∨ hi < c.offset)).length ≤ (cs.length - 1) / 3 →
    lo ≤ midpoint (sortCandidates cs) ∧ midpoint (sortCandidates cs) ≤ hi

/-- A round end, whole: the summary and SPREAD_HIGH; each row after the discard stage, the countdown and the ageing,
with PEER_EXCLUDED; the round timer; the Line Unit's count, in STUCK that of the return state; and the request that
the clock takes, with its step's reaction on the rows, the round timer and the other blocks (R13, R17, R18, R21, R28,
R29, R31, R32, R33, R34, R35, R54, R56, R57). The correction is half the sum of the smallest and the largest offset
that remains, toward zero, and the spread their difference (R30). -/
def Obligations.RoundEndIsTaken : Prop :=
  ∀ s : State, s.running = true → s.reached s.agr.nextRound = true →
    let round := findRound s.cfg s.clock.state s.agr.nextRound s.agr.rows
    let alone := round.sorted = [{ station := s.cfg.station, offset := 0 }] ∧ round.self = true
    let c := midpoint round.sorted
    let spread : Int := highest round.sorted - lowest round.sorted
    let f := (round.sorted.length - 1) / 3
    let remaining := (round.sorted.drop f).take (round.sorted.length - 2 * f)
    let far (row : Row) : Prop := (∃ x ∈ round.sorted, x.station = row.station) ∧
      (∀ x ∈ remaining, x.station ≠ row.station) ∧ s.cfg.exclusion < (row.offset - c).natAbs
    let fresh (row : Row) : Prop := row.fresh = true ∧
      ∃ cap, row.lastCapture = some cap ∧ diff s.agr.nextRound cap ≤ s.cfg.period * 1000000000
    let stepped := s.clock.state ≠ .referenced ∧ ¬ alone ∧
      (s.clock.state = .free ∨ 500000 * s.cfg.period < c.natAbs)
    let counted (p : LineState × Nat) : LineState × Nat :=
      match p.1 with
      | .silent => if p.2 = 0 then (.silent, 1) else (.active, 0)
      | .muted => if 15 ≤ p.2 then (.silent, 0) else (.muted, p.2 + 1)
      | .active => p
      | .stuck => p
    (∃ lo hi : Int, (∃ x ∈ remaining, x.offset = lo) ∧ (∃ x ∈ remaining, x.offset = hi) ∧
      (∀ x ∈ remaining, lo ≤ x.offset ∧ x.offset ≤ hi) ∧ c = Int.tdiv (lo + hi) 2 ∧ spread = hi - lo) ∧
    ∃ t, exec .roundEnd s = .next t ∧
      t.agr.lastRound = some s.agr.nextRound ∧ t.agr.roundCrossed = true ∧
      t.agr.summary = { tier := round.tier, count := round.sorted.length, spread := t.agr.summary.spread } ∧
      (¬ alone → t.agr.summary.spread = spread) ∧ (alone → t.agr.summary.spread = 0) ∧
      (flagIsSet .spreadHigh t = true ↔
        flagIsSet .spreadHigh s = true ∨ (s.cfg.spreadLimit : Int) < t.agr.summary.spread) ∧
      (flagIsSet .peerExcluded t = true ↔ flagIsSet .peerExcluded s = true ∨
        ∃ row ∈ s.agr.rows, row.state ≠ .excluded ∧ far row ∧ 7 ≤ row.run) ∧
      (∃ after : Row → Row,
        (¬ stepped → t.agr.rows = s.agr.rows.map fun row => { after row with fresh := false }) ∧
        (stepped → t.agr.rows = s.agr.rows.map fun row =>
          { after row with fresh := false, lastCapture := (after row).lastCapture.map (plus · c) }) ∧
        ∀ row ∈ s.agr.rows, ∃ row1 : Row,
          (row.state = .excluded → row1 = { row with
            excludedFor := row.excludedFor - 1, state := if row.excludedFor - 1 = 0 then .live else .excluded }) ∧
          (row.state ≠ .excluded →
            (far row → row1 = if 7 ≤ row.run then { row with state := .excluded, excludedFor := 32, run := 0 }
              else { row with run := row.run + 1 }) ∧
            (¬ far row → (∃ x ∈ round.sorted, x.station = row.station) → row1 = { row with run := 0 }) ∧
            ((∀ x ∈ round.sorted, x.station ≠ row.station) → row1 = row)) ∧
          (row1.state = .empty ∨ fresh row → after row = row1) ∧
          (row1.state ≠ .empty → ¬ fresh row →
            after row = if 15 ≤ row.age then Row.emptyOf row.station
              else { row1 with
                age := row.age + 1, state := if row1.state = .live ∧ 2 ≤ row.age then .stale else row1.state })) ∧
      (if s.clock.state = .referenced then t.clock = s.clock
       else if alone then
         (if s.clock.state = .agreed then t.clock = { s.clock with state := .holdover, slew := 0 }
          else t.clock = s.clock)
       else t.clock.state = .agreed ∧ Applied c s.cfg.period s.clock t.clock) ∧
      (¬ stepped → t.agr.nextRound = plus s.agr.nextRound ((s.cfg.period * 1000000000 : Nat) : Int) ∧
        t.ref = s.ref ∧ t.win = s.win ∧ t.acq = s.acq ∧ t.line.queue = s.line.queue) ∧
      (stepped →
        let u := stepReactions c { s with clock := t.clock }
        t.ref = u.ref ∧ t.win = u.win ∧ t.acq = u.acq ∧ t.line.queue = u.line.queue ∧
        (s.cfg.period ∈ [2, 4, 8, 16] → s.agr.nextRound < 4294967296000000000 → t.reading < 4294967296000000000 →
          FirstAfter (s.cfg.period * 1000000000) 0 t.reading (some s.agr.nextRound) t.agr.nextRound)) ∧
      (s.line.state = .stuck →
        t.line.state = .stuck ∧ t.line.roundCount = s.line.roundCount ∧ t.line.ret = s.line.ret.map counted) ∧
      (s.line.state ≠ .stuck →
        (t.line.state, t.line.roundCount) = counted (s.line.state, s.line.roundCount) ∧ t.line.ret = s.line.ret) ∧
      t.pending = s.pending ∧ t.tick = s.tick ∧ t.cfg = s.cfg ∧ t.loader = s.loader ∧ t.corr = s.corr

/-- Exclusion's countdown and ageing at a round end, for a row that is no candidate: an EMPTY row stays, a row that is
not fresh ages by one round end, becomes STALE at 3 and EMPTY at 16, and an EXCLUDED row is counted down and becomes
LIVE at 0 first (R25, R34, R35). The discard stage on any row: a candidate dropped farther than the threshold from the
midpoint adds to its run, the eighth in a row excludes it for 32 round ends, any other candidate's run is 0, and a row
that is no candidate keeps its run (R33). The worked round of the chapter: station 3 among settled peers, c = 1,200 and
spread 2,400; and the peer that drifts away, dropped far from the midpoint for the eighth time, is excluded for 32
round ends (R30, R33). -/
def Obligations.RowsAgeAndAreExcluded : Prop :=
  (∀ (round : Round) (cfg : Settings) (roundEnd : NodeTime) (row : Row), round.candidate row.station = false →
    row.age ≤ 16 →
    let left := row.excludedFor - 1
    let row1 : Row :=
      if row.state = .excluded then
        { row with excludedFor := left, state := if left = 0 then .live else .excluded, fresh := false }
      else { row with fresh := false }
    row.endRound round cfg roundEnd =
      if row.state = .empty ∨ row.freshAt cfg.periodNs roundEnd = true then row1
      else if 15 ≤ row.age then Row.emptyOf row.station
      else { row1 with
        age := row.age + 1
        state := if row1.state = .live ∧ 2 ≤ row.age then .stale else row1.state }) ∧
  (∀ (round : Round) (threshold : Nat) (row : Row),
    let f := (round.sorted.length - 1) / 3
    let remaining := (round.sorted.drop f).take (round.sorted.length - 2 * f)
    let candidate := ∃ x ∈ round.sorted, x.station = row.station
    let far := (∀ x ∈ remaining, x.station ≠ row.station) ∧ threshold < (row.offset - midpoint round.sorted).natAbs
    (¬ candidate → row.discard round threshold = row) ∧
    (candidate → ¬ far → row.discard round threshold = { row with run := 0 }) ∧
    (candidate → far → row.discard round threshold =
      if 7 ≤ row.run then { row with state := .excluded, excludedFor := 32, run := 0 }
      else { row with run := row.run + 1 })) ∧
  (let cs : List Candidate := [⟨3, 0⟩, ⟨2, 1200⟩, ⟨5, -300⟩, ⟨7, 2400⟩, ⟨9, 150000⟩]
   midpoint (sortCandidates cs) = 1200 ∧ spread (sortCandidates cs) = 2400) ∧
  (let cs : List Candidate := [⟨3, 0⟩, ⟨2, 100⟩, ⟨5, -200⟩, ⟨7, 300⟩, ⟨9, -50⟩, ⟨12, 7000000⟩]
   let round : Round := { tier := .settled, sorted := sortCandidates cs, self := true }
   midpoint round.sorted = 125 ∧ spread round.sorted = 350 ∧
   ∀ row : Row, row.station = 12 → row.offset = 7000000 →
     row.discard round 1000000 =
       if 7 ≤ row.run then { row with state := .excluded, excludedFor := 32, run := 0 }
       else { row with run := row.run + 1 })

/-- At its MARK instant a started node hands a MARK to the MARK slot, where it replaces a pending one with 0 failures or
waits for the attempt's end, and the next MARK instant is P seconds later (R19, R70). -/
def Obligations.MarkInstantHandsAMark : Prop :=
  ∀ s : State, s.running = true → s.reached s.agr.nextMark = true →
    exec .markInstant s = .next { s with
      agr := { s.agr with
        lastMark := some s.agr.nextMark
        nextMark := plus s.agr.nextMark ((s.cfg.period * 1000000000 : Nat) : Int) }
      line := { s.line with
        markSlot :=
          if s.line.attempting .mark then { s.line.markSlot with waiting := true }
          else { full := true, failures := 0, waiting := false } } }

/-! ## The Reference Input (03) -/

/-- Of any capture, the pulse error and the nearest second; the pulse is early less than 500 ms after the last; it
takes the held label's count when it comes 100 ms to 950 ms after the label's arrival; and the label difference is
that count less the nearest second modulo 2³², held from −2³¹ to 2³¹ − 1 (R40, R42, R47). An accepted pulse with no
label, or with a label that agrees or disagrees for the first time, is tracked: R = −e, the trim moves by −e ÷ 16, the
miss count is 0, the mismatch record is as the label leaves it; no note, no flag (R40, R43, R47, R48). -/
def Obligations.AcceptedPulseIsTracked : Prop :=
  (∀ (sec ns : Nat) (last : Option Nat) (label : Option Label), sec < 4294967296 → ns < 1000000000 →
    let t := sec * 1000000000 + ns
    (ns < 500000000 → pulseError t = ns ∧ pulseSecond t = sec) ∧
    (500000000 ≤ ns → pulseError t = (ns : Int) - 1000000000 ∧
      pulseSecond t = if sec = 4294967295 then 0 else sec + 1) ∧
    (isEarly t last = true ↔ ∃ l, last = some l ∧ diff t l < 500000000) ∧
    ∀ n, pairedSecond t label = some n ↔
      ∃ l, label = some l ∧ l.count = n ∧ 100000000 ≤ diff t l.arrival ∧ diff t l.arrival ≤ 950000000) ∧
  (∀ n k : Nat, n < 4294967296 → k < 4294967296 →
    labelDifference none k = 0 ∧ -2147483648 ≤ labelDifference (some n) k ∧ labelDifference (some n) k ≤ 2147483647 ∧
    (4294967296 : Int) ∣ (n : Int) - (k : Int) - labelDifference (some n) k) ∧
  ∀ s : State, s.running = true → s.clock.state = .referenced →
    let e := pulseError s.reading
    let labelled := pairedSecond s.reading s.ref.label
    let d := labelDifference labelled (pulseSecond s.reading)
    isEarly s.reading s.ref.lastPulse = false → -100000 ≤ e → e ≤ 100000 → (d = 0 ∨ s.ref.mismatch ≠ some d) →
    exec .pulse s = .next { s with
      clock := { s.clock with
        slew := -e * 10000000, trim := clampTo (-10000) 10000 (s.clock.trim + towardZero (-e) 16) }
      ref := { s.ref with
        missCount := 0, label := none, lastPulse := some s.reading, deadline := some (plus s.reading 1200000000)
        mismatch := if labelled = none then s.ref.mismatch else if d = 0 then none else some d } }

/-- The second consecutive mismatch with the same difference steps the clock by that many whole seconds: LABEL_STEP and
STEPPED, the record none, the moved capture and deadline, the state still REFERENCED (R48, R49, R50). -/
def Obligations.SecondMismatchStepsTheLabel : Prop :=
  ∀ s : State, s.running = true → s.clock.state = .referenced →
    let e := pulseError s.reading
    let d := labelDifference (pairedSecond s.reading s.ref.label) (pulseSecond s.reading)
    isEarly s.reading s.ref.lastPulse = false → -100000 ≤ e → e ≤ 100000 → d ≠ 0 → s.ref.mismatch = some d →
    ∃ t, exec .pulse s = .next t ∧ t.clock.state = .referenced ∧ t.clock.reading = plus s.reading (d * 1000000000) ∧
      t.clock.slew = 0 ∧ t.clock.trim = s.clock.trim ∧ t.clock.remainder = s.clock.remainder ∧
      t.ref.mismatch = none ∧ t.ref.missCount = 0 ∧ t.ref.label = none ∧
      t.ref.lastPulse = some (plus s.reading (d * 1000000000)) ∧
      t.ref.deadline = some (plus (plus s.reading 1200000000) (d * 1000000000)) ∧
      flagIsSet .labelStep t = true ∧ flagIsSet .stepped t = true ∧ t.acq.stepped = true ∧
      t.cfg = s.cfg ∧ t.corr = s.corr

/-- A rejected pulse and an expired absence deadline count a miss; the third loses the reference: HOLDOVER with R = 0 and
the trim kept, the counts and the record cleared (R40, R43, R44, R45). -/
def Obligations.ThirdMissLosesTheReference : Prop :=
  ∀ s : State, s.running = true → s.clock.state = .referenced →
    let lost (t : State) (last : Option Nat) (deadline : Option Nat) (label : Option Label) : Prop :=
      t.clock = { s.clock with state := .holdover, slew := 0 } ∧
      t.ref = { s.ref with
        acqCount := 0, prevError := none, missCount := 0, mismatch := none, lastPulse := last, deadline := deadline
        label := label } ∧
      flagIsSet .refLost t = true ∧ flagIsSet .holdover t = true ∧ t.agr = s.agr ∧ t.win = s.win ∧ t.acq = s.acq ∧
      t.cfg = s.cfg ∧ t.corr = s.corr
    ((isEarly s.reading s.ref.lastPulse = true ∨ 100000 < (pulseError s.reading).natAbs) →
      (s.ref.missCount < 2 → exec .pulse s = .next { s with
        ref := { s.ref with
          missCount := s.ref.missCount + 1, label := none, lastPulse := some s.reading
          deadline := some (plus s.reading 1200000000) } }) ∧
      (2 ≤ s.ref.missCount →
        ∃ t, exec .pulse s = .next t ∧ lost t (some s.reading) (some (plus s.reading 1200000000)) none)) ∧
    ∀ due, s.ref.deadline = some due → s.reached due = true →
      (s.ref.missCount < 2 → exec .absenceDeadline s = .next { s with
        ref := { s.ref with missCount := s.ref.missCount + 1, deadline := some (plus due 1200000000) } }) ∧
      (2 ≤ s.ref.missCount →
        ∃ t, exec .absenceDeadline s = .next t ∧ lost t s.ref.lastPulse (some (plus due 1200000000)) s.ref.label)

/-- Outside REFERENCED a pulse is counted: the run restarts at 1 without a previous error, when early, or when the
error moved by more than 1 ms, and else goes on; an expired deadline breaks the run (R40, R41, R44). That an early
pulse restarts the run at 1 even as the first after a loss is the model's choice between R41 and R45 (log entry 33). -/
def Obligations.AcquisitionPulsesAreCounted : Prop :=
  ∀ s : State, s.running = true → s.clock.state ≠ .referenced →
    let e := pulseError s.reading
    let restarts := s.ref.prevError = none ∨ isEarly s.reading s.ref.lastPulse = true ∨
      ∃ p, s.ref.prevError = some p ∧ 1000000 < (e - p).natAbs
    ((restarts ∨ s.ref.acqCount < 3) → exec .pulse s = .next { s with
      ref := { s.ref with
        acqCount := if restarts then 1 else s.ref.acqCount + 1, prevError := some e, label := none
        lastPulse := some s.reading, deadline := some (plus s.reading 1200000000) } }) ∧
    ∀ due, s.ref.deadline = some due → s.reached due = true →
      exec .absenceDeadline s = .next { s with
        ref := { s.ref with acqCount := 0, prevError := none, deadline := none } }

/-- The fourth consistent pulse acquires the reference: the clock takes d × 10⁹ − e, as a step when FREE or beyond
500 µs, and is REFERENCED; REF_ACQUIRED is set and the run, the miss count and the record are cleared (R42). -/
def Obligations.FourthPulseAcquires : Prop :=
  ∀ s : State, s.running = true → s.clock.state ≠ .referenced →
    let e := pulseError s.reading
    let d := labelDifference (pairedSecond s.reading s.ref.label) (pulseSecond s.reading)
    ∀ p, s.ref.prevError = some p → (e - p).natAbs ≤ 1000000 → isEarly s.reading s.ref.lastPulse = false →
      3 ≤ s.ref.acqCount →
      ∃ t, exec .pulse s = .next t ∧ t.clock.state = .referenced ∧
        Applied (d * 1000000000 - e) 1 s.clock t.clock ∧ flagIsSet .refAcquired t = true ∧
        t.ref.acqCount = 0 ∧ t.ref.prevError = none ∧ t.ref.missCount = 0 ∧ t.ref.mismatch = none ∧
        t.ref.label = none ∧ t.cfg = s.cfg ∧ t.corr = s.corr

/-- The six characters of a label message give a label with its count and the arrival of its last character, and with a
wrong sum nothing; a lead is waited for; a framing error abandons the message, and so does a gap of more than 5 ms
before the next character begins, found at LABEL_GAP or at the start bit; an old label is dropped (R46, R47, R197). The
start bit is taken as a tick samples the input (log entry 16); that a character of any other message of six is taken
whenever it comes in time is the model's reading (log entry 3). -/
def Obligations.LabelsAreAssembled : Prop :=
  (∀ (r : RefInput) (count : Nat) (sum : Byte) (t0 t1 t2 t3 t4 t5 : Nat), r.labelRx = .waiting →
    count < 4294967296 →
    let bs := leBytes 4 count
    let r1 := r.character 0xA3#8 t0
    let r2 := r1.character (bs.getD 0 0) t1
    let r3 := r2.character (bs.getD 1 0) t2
    let r4 := r3.character (bs.getD 2 0) t3
    let r5 := r4.character (bs.getD 3 0) t4
    r5.character sum t5 =
      if ([0xA3#8] ++ bs ++ [sum]).foldl (· + ·) 0#8 = 0#8 then { r with label := some { count := count, arrival := t5 } }
      else r) ∧
  (∀ (c : Byte) (s : State), s.running = true →
    let past : RefInput := { s.ref with charBegun := false }
    (s.ref.charBegun = true →
      exec (.labelCharacter c true) s = .next { s with ref := { past with labelRx := .waiting } } ∧
      exec (.labelCharacter c false) s = .next { s with ref := past.character c s.reading }) ∧
    (s.ref.charBegun = false → ∀ stopLow, exec (.labelCharacter c stopLow) s = .next s) ∧
    (s.ref.labelRx = .waiting → c ≠ 0xA3#8 → past.character c s.reading = past)) ∧
  (∀ (s : State) (chars : List Byte) (last : Nat), s.running = true → s.ref.labelRx = .assembling chars last →
    (s.ref.charBegun = false → 5000000 < diff s.reading last →
      exec .labelGap s = .next { s with ref := { s.ref with labelRx := .waiting } }) ∧
    (s.ref.charBegun = true ∨ diff s.reading last ≤ 5000000 → exec .labelGap s = .next s)) ∧
  (∀ (pins : TickPins) (s : State), s.running = true →
    ∃ t, exec (.oscillatorTick pins) s = .next t ∧
      (¬ (pins.labelLow = true ∧ s.ref.pinLow = false ∧ s.ref.charBegun = false) →
        t.ref = { s.ref with pinLow := pins.labelLow }) ∧
      (pins.labelLow = true → s.ref.pinLow = false → s.ref.charBegun = false →
        t.ref = { s.ref with
          pinLow := true, charBegun := true
          labelRx := match s.ref.labelRx with
            | .waiting => .waiting
            | .assembling chars last =>
              if 5000000 < diff s.reading last then .waiting else .assembling chars last })) ∧
  ∀ (s : State) (l : Label), s.running = true → s.ref.label = some l →
    later s.reading (plus l.arrival 950000000) = true →
    exec .labelExpiry s = .next { s with ref := { s.ref with label := none } }

/-! ## The Line Unit (04) -/

/-- The receiver becomes READY after 600 idle ticks, all of them after the last truncation; a lead edge in READY is
captured, begins a reception and is announced; a reception not of this node's own attempt ends at a framing error, a
first character other than the lead, a length byte above 200, or a gap inside the frame longer than 400 ticks, and is
then not READY for 600 ticks; and it ends at a failed check (R21, R60, R61). That the tick from which a truncation
lets READY come is held in readyFrom is the model's choice (log entry 14), and that the character under way at a lead
edge begins at age 0 there is its reading (log entry 29). -/
def Obligations.ReceptionsBeginAndEnd : Prop :=
  (∀ s : State, s.running = true → s.line.ready = false → s.line.reception = none →
    (600 ≤ s.line.idleRun → s.line.readyFrom ≤ s.tick →
      exec .receiverReady s = .next { s with line := { s.line with ready := true } }) ∧
    (s.line.idleRun < 600 ∨ s.tick < s.line.readyFrom → exec .receiverReady s = .next s)) ∧
  (∀ s : State, s.running = true → s.line.ready = true →
    let cap : Capture := { reading := s.reading, slew := s.clock.slew }
    ∃ own, (own = true ↔ ∃ a, s.line.attempt = some a ∧ a.lead = none) ∧
      exec .leadEdge s = .next { s with
        line := { s.line with
          ready := false, idleRun := 0, level := true, charRx := some { age := 0, bits := 0#8, stopLow := false }
          reception := some { capture := cap, leadTick := s.tick, own := own, chars := [], framing := false }
          attempt := s.line.attempt.map fun a => if a.lead = none then { a with lead := some cap, ticks := 0 } else a }
        agr := { s.agr with stepSum := 0, roundCrossed := false }
        win := { s.win with leadCap := some s.reading } }) ∧
  (∀ (r : Reception) (s : State), s.running = true → s.line.reception = some r → r.own = false →
    (r.framing = true ∨ (∃ c cs, r.chars = c :: cs ∧ c ≠ 0xC5#8) ∨ (4 ≤ r.chars.length ∧ 200 < natAt 3 1 r.chars) ∨
      (400 < s.line.idleRun ∧ (r.chars.length < 4 ∨ r.chars.length < natAt 3 1 r.chars + 6))) →
    exec .receptionTruncated s = .next { s with
      line := { s.line with reception := none, ready := false, readyFrom := s.tick + 600 } }) ∧
  ∀ (r : Reception) (s : State), s.running = true → s.line.reception = some r → r.own = false → r.whole = true →
    (crc (bytesAt 1 (natAt 3 1 r.chars + 3) r.chars)).toNat ≠ natAt (natAt 3 1 r.chars + 4) 2 r.chars →
    exec .checkFailed s = .next (ended s)

/-- A good frame of any kind with the node's own station sets DUPLICATE and makes the line state MUTED, round count 0,
or the return state of STUCK, and is delivered to no block; a STATE and a frame of unknown kind of another station are
delivered to no block (R55, R62). -/
def Obligations.DuplicatesMuteTheNode : Prop :=
  ∀ (c : Instr) (r : Reception) (s : State), Heard r s →
    ((c, kindOf r) ∈ receivedKinds ∨
      (c = .unknownKindReceived ∧ kindOf r ∉ [1#8, 2#8, 3#8, 4#8, 5#8, 6#8, 7#8, 8#8])) →
    (senderOf r = s.cfg.station →
      exec c s = .next (setFlag .duplicate { s with
        line := { s.line with
          reception := none, ready := false
          state := if s.line.state = .stuck then .stuck else .muted
          roundCount := if s.line.state = .stuck then s.line.roundCount else 0
          ret := if s.line.state = .stuck then some (.muted, 0) else s.line.ret } })) ∧
    (senderOf r ≠ s.cfg.station → c = .stateReceived ∨ c = .unknownKindReceived → exec c s = .next (ended s))

/-- A BLOCK that is recalled, of another length than 1 to 6 records, or of a station outside the listen map is
ignored; the records of any other that meet the tests are committed in the order of the frame, and nothing more
happens unless its sender is the check partner (R75, R153, R154). The tests discard a record that is not OWN, is of
another source than the frame's, or has a state code, milliseconds, a valid count, a value or a temperature out of
range, or a value with no valid sample; the record of any other is as received (R153). A record of the partner that is
not disturbed, has a value 0 and has its second in the buffer makes a CHECK record, committed behind it and before the
next PEER record, and the third difference in a row beyond the threshold sets DELTA_F; any other makes none (R142,
R143, R144, R154). -/
def Obligations.BlockReceivedIsStaged : Prop :=
  (∀ (r : Reception) (s : State), Heard r s → kindOf r = 0x02#8 → senderOf r ≠ s.cfg.station →
    let ignored := s.cfg.listen.getLsbD (senderOf r) = false ∨ ((payloadOf r).getD 0 0).getLsbD 0 = true ∨
      (payloadOf r).length ∉ [33, 65, 97, 129, 161, 193]
    (ignored → exec .blockReceived s = .next (ended s)) ∧
    (¬ ignored → s.cfg.partner ≠ some (senderOf r) → s.ring.records.length + 6 ≤ 16384 →
      exec .blockReceived s = .next { ended s with
        ring := { s.ring with
          records := s.ring.records ++ (List.range (((payloadOf r).length - 1) / 32)).filterMap fun i =>
            peerRecord (senderOf r) (frameOf r.chars).role (((payloadOf r).drop (1 + 32 * i)).take 32) } }) ∧
    -- each record, and behind it the CHECK record it makes
    (¬ ignored → s.ring.records.length + 12 ≤ 16384 →
      let peers := (List.range (((payloadOf r).length - 1) / 32)).filterMap fun i =>
        peerRecord (senderOf r) (frameOf r.chars).role (((payloadOf r).drop (1 + 32 * i)).take 32)
      let match' (p : Record) : Option (Int × Nat × Nat) :=
        match p.body with
        | .peer v _ =>
          if s.cfg.role = .vector ∧ s.cfg.partner = some p.station ∧ p.role = .scalar ∧ p.flags.disturbed = false then
            v.value.x.bind fun fs => (s.corr.recentF.find? fun e =>
              decide (e.1 = if p.millis < 500 then p.seconds else (p.seconds + 1) % 4294967296)).map fun e => (fs, e)
          else none
        | .own _ | .check _ _ _ | .note _ => none
      let check (m : Int × Nat × Nat) : Record :=
        { station := s.cfg.station, role := s.cfg.role, seconds := m.2.1, millis := 0, timebase := s.clock.state
          flags := RecordFlags.noFlags
          body := .check m.1 (clampTo (-400000000) 400000000 m.2.2) (clampTo (-400000000) 400000000 (m.1 - m.2.2)) }
      let run (ms : List (Int × Nat × Nat)) : Nat :=
        ms.foldl (fun n m => if (m.1 - m.2.2).natAbs ≤ s.cfg.deltaLimit then 0 else min (n + 1) 3) s.corr.runCount
      let matches' := peers.filterMap match'
      ∃ t, exec .blockReceived s = .next t ∧
        t.ring = { s.ring with
          records := s.ring.records ++ peers.flatMap fun p => p :: ((match' p).map check).toList } ∧
        t.corr = { s.corr with runCount := run matches' } ∧
        (flagIsSet .deltaF t = true ↔ flagIsSet .deltaF s = true ∨
          ∃ k, 1 ≤ k ∧ k ≤ matches'.length ∧ run (matches'.take k) = 3) ∧
        t.clock = s.clock ∧ t.ref = s.ref ∧ t.agr = s.agr ∧ t.win = s.win ∧ t.acq = s.acq ∧ t.cfg = s.cfg ∧
        t.line = { (ended s).line with stateSlot := t.line.stateSlot })) ∧
  -- the tests, and what a record that passes them holds
  (∀ (station : Nat) (role : Role) (bs : List Byte), bs.length = 32 →
    let value (i : Nat) : Int := placedSigned (10 + 4 * i) 4 bs
    let count (i : Nat) : Nat := placed 22 2 bs / 16 ^ i % 16
    let temperature : Int := placedSigned 24 2 bs
    let given (i : Nat) : Option Int := if value i = -2147483648 then none else some (value i)
    let sender : Role := match placed 1 1 bs / 16 % 4 with | 0 => .vector | 1 => .scalar | 2 => .timing | _ => .logger
    let passes := placed 0 1 bs % 16 = 0 ∧ placed 1 1 bs % 16 = station ∧ sender = role ∧ placed 0 1 bs / 16 ≤ 3 ∧
      placed 6 2 bs ≤ 999 ∧
      (∀ i < 3, count i ≤ 10 ∧ (value i = -2147483648 ∨ (count i ≠ 0 ∧ (value i).natAbs ≤ 400000000))) ∧
      (temperature = -32768 ∨ (-5000 ≤ temperature ∧ temperature ≤ 7000))
    let flag (k : Nat) : Bool := (placed 8 2 bs).testBit k
    (¬ passes → peerRecord station role bs = none) ∧
    (passes → peerRecord station role bs = some
      { station := station, role := role, seconds := placed 2 4 bs, millis := placed 6 2 bs
        timebase := match placed 0 1 bs / 16 with | 0 => .free | 1 => .referenced | 2 => .agreed | _ => .holdover
        flags :=
          { stepped := flag 0, blanked := flag 1, partly := flag 2, saturated := flag 3, tableEdge := flag 4
            tempHeld := flag 5, tempStale := flag 6, noTemp := flag 7, disturbed := flag 8, skipped := flag 9
            missing := flag 10 }
        body := .peer
          { value := ⟨given 0, given 1, given 2⟩, valid := ⟨count 0, count 1, count 2⟩
            temperature := if temperature = -32768 then none else some temperature }
          (BitVec.ofNat 8 (placed 0 1 bs + 1) :: bs.tail) })) ∧
  (∀ (p : Record) (s : State),
    (s.cfg.role ≠ .vector ∨ s.cfg.partner ≠ some p.station ∨ p.role ≠ .scalar ∨ p.flags.disturbed = true ∨
      (∀ v bs, p.body = .peer v bs → v.value.x = none) ∨
      (∀ e ∈ s.corr.recentF, e.1 ≠ if p.millis < 500 then p.seconds else (p.seconds + 1) % 4294967296)) →
    checkPeer p s = s) ∧
  ∀ (p : Record) (v : Values) (bs : List Byte) (fs : Int) (e : Nat × Nat) (s : State),
    s.cfg.role = .vector → s.cfg.partner = some p.station → p.role = .scalar → p.flags.disturbed = false →
    p.body = .peer v bs → v.value.x = some fs →
    s.corr.recentF.find? (fun e => decide (e.1 = if p.millis < 500 then p.seconds else (p.seconds + 1) % 4294967296)) =
      some e →
    s.ring.records.length < 16384 →
    let delta : Int := fs - e.2
    let run := if delta.natAbs ≤ s.cfg.deltaLimit then 0 else min (s.corr.runCount + 1) 3
    let checked : State := { s with
      ring := { s.ring with
        records := s.ring.records ++
          [{ station := s.cfg.station, role := s.cfg.role, seconds := e.1, millis := 0, timebase := s.clock.state
             flags := RecordFlags.noFlags
             body := .check fs (clampTo (-400000000) 400000000 e.2) (clampTo (-400000000) 400000000 delta) }] }
      corr := { s.corr with runCount := run } }
    checkPeer p s = if run = 3 then setFlag .deltaF checked else checked

/-- In ACTIVE, READY, with no back-off and no attempt, the arbiter starts the oldest frame of the window queue, then the
MARK, then the STATE, then the pending block bank, then the recall reply; with none nothing starts (R64, R78, R80, R83,
R157, R177). The STATE's payload gathers its items as they stand, each in its place (R38, R177, R195). -/
def Obligations.AttemptStartsInOrder : Prop :=
  (∀ s : State,
    let bit (b : Bool) (w : Nat) : Nat := if b then w else 0
    let clock : Nat := match s.clock.state with | .free => 0 | .referenced => 1 | .agreed => 2 | .holdover => 3
    let line : Nat := match s.line.state with | .silent => 0 | .active => 4 | .muted => 8 | .stuck => 12
    let cause : Nat := match s.loader.lastCause with | .powerOn => 0 | .external => 16
    let tier : Byte := match s.agr.summary.tier with | .free => 1#8 | .settled => 2#8 | .referenced => 3#8
    let report (v : Int) : List Byte :=
      leBytes 4 (if v < -2147483648 then -2147483648 else if 2147483647 < v then 2147483647 else v)
    let tag (r : Option Record) : List Byte :=
      match r with | none => [0#8, 0#8, 0#8, 0#8, 0#8, 0#8] | some r => leBytes 4 r.seconds ++ leBytes 2 r.millis
    let row (r : Row) : List Byte :=
      let peer : Byte := match r.peer with | .free => 0#8 | .referenced => 1#8 | .agreed => 2#8 | .holdover => 3#8
      match r.state with
      | .empty => []
      | .live => [BitVec.ofNat 8 (r.station % 16 + 16), peer] ++ report r.offset
      | .stale => [BitVec.ofNat 8 (r.station % 16 + 32), peer] ++ report r.offset
      | .excluded => [BitVec.ofNat 8 (r.station % 16 + 48), peer] ++ report r.offset
    statePayload s =
      [s.flag.flags.time, s.flag.flags.line, s.flag.flags.data, s.flag.flags.window, s.flag.flags.start,
        BitVec.ofNat 8 (bit s.flag.closed.time 1 + bit s.flag.closed.line 2 + bit s.flag.closed.data 4 +
          bit s.flag.closed.window 8 + bit s.flag.closed.start 16),
        BitVec.ofNat 8 (clock + line + cause)] ++
      leBytes 2 s.clock.trim ++ leBytes 4 (Int.tdiv s.clock.slew 10000000) ++
      [tier, BitVec.ofNat 8 s.agr.summary.count] ++ report s.agr.summary.spread ++
      leBytes 1 s.acq.steps.x ++ leBytes 1 s.acq.steps.y ++ leBytes 1 s.acq.steps.z ++
      tag s.ring.records.head? ++ tag s.ring.records.getLast? ++ leBytes 2 s.ring.records.length ++
      s.agr.rows.flatMap row) ∧
  ∀ s : State, s.running = true → s.line.state = .active → s.line.ready = true → s.line.backoff = none →
    s.line.attempt = none →
    let begun (item : Item) (kind : Byte) (payload : List Byte) (length : Nat) : Attempt :=
      { item := item, kind := kind, length := length, payload := payload, ticks := 0, lead := none, forced := false
        delay := 0 }
    let block (markers : Byte) (rs : List Record) (item : Item) : Attempt :=
      begun item 0x02#8 (markers :: rs.flatMap Record.bytes) (rs.flatMap Record.bytes).length.succ
    (∀ q qs, s.line.queue = q :: qs →
      let forced : Bool := match q.frame with
        | .ask _ cls _ _ => s.win.own.urgent || decide (cls = .compStep ∧ 3 ≤ s.win.own.attempts)
        | .defer _ _ _ _ _ | .withdraw _ _ => false
      exec .attemptStart s = .next { s with
        line := { s.line with
          queue := { q with inAttempt := true } :: qs
          attempt := some { (match q.frame with
            | .ask id cls _ _ =>
              begun .window 0x04#8 [id.toByte, BitVec.ofNat 8 cls.code, if forced then 1#8 else 0#8] 9
            | .defer w _ _ _ _ => begun .window 0x05#8 [w.id.toByte] 3
            | .withdraw id _ => begun .window 0x06#8 [id.toByte] 1) with forced := forced } } }) ∧
    (s.line.queue = [] →
      (s.line.markSlot.full = true →
        exec .attemptStart s = .next { s with line := { s.line with attempt := some (begun .mark 0x01#8 [] 9) } }) ∧
      (s.line.markSlot.full = false →
        (s.line.stateSlot.full = true →
          exec .attemptStart s = .next { s with
            line := { s.line with
              attempt := some (begun .state 0x03#8 (statePayload s) (statePayload s).length) } }) ∧
        (s.line.stateSlot.full = false →
          (s.ring.bank0.state = .pending → exec .attemptStart s = .next { s with
            ring := { s.ring with bank0 := { s.ring.bank0 with state := .sending } }
            line := { s.line with attempt := some (block 0#8 s.ring.bank0.records (.bank false)) } }) ∧
          (s.ring.bank0.state ≠ .pending → s.ring.bank1.state = .pending → exec .attemptStart s = .next { s with
            ring := { s.ring with bank1 := { s.ring.bank1 with state := .sending } }
            line := { s.line with attempt := some (block 0#8 s.ring.bank1.records (.bank true)) } }) ∧
          (s.ring.bank0.state ≠ .pending → s.ring.bank1.state ≠ .pending →
            (∀ sc reply, s.ring.scan = some sc → sc.reply = some reply → exec .attemptStart s = .next { s with
              line := { s.line with
                attempt := some (block (blockMarkers true reply.final reply.notHeld reply.gap) reply.records
                  (.reply false)) } }) ∧
            ((s.ring.scan = none ∨ ∃ sc, s.ring.scan = some sc ∧ sc.reply = none) →
              exec .attemptStart s = .next s)))))

/-- An attempt read back whole without mismatch is sent: the attempt and its reception end; a slot passes to its next;
a bank becomes FREE, and a full bank that waits beside it then closes; an END ends the scan, and any other reply makes
way for the next; the reply of a scan that a new RECALL ended is reported to no scan, and the new scan's first reply
is then assembled; a DEFER and a WITHDRAW leave the queue; and an ASK makes the own record WAITING, with its times
from the ASK's lead, and enters a COMP_STEP window in the own list (R65, R70, R74, R84, R156, R158, R159, R163). -/
def Obligations.SentFrameLeaves : Prop :=
  ∀ (a : Attempt) (r : Reception) (s : State), s.running = true → s.line.attempt = some a →
    s.line.reception = some r → r.own = true → r.framing = false → a.payload.length = a.length →
    r.chars = sentChars s.cfg.station s.cfg.role a.kind a.length a.payload →
    let after : LineUnit := { s.line with attempt := none, reception := none, ready := false }
    (a.item = .mark → exec .frameSent s = .next { s with
      line := { after with markSlot := { full := s.line.markSlot.waiting, failures := 0, waiting := false } } }) ∧
    (a.item = .state → exec .frameSent s = .next { s with
      line := { after with stateSlot := { full := s.line.stateSlot.waiting, failures := 0, waiting := false } } }) ∧
    (∀ second : Bool, a.item = .bank second →
      let other := if second then s.ring.bank0 else s.ring.bank1
      let banks (mine other : Bank) : RecordRing :=
        if second then { s.ring with bank0 := other, bank1 := mine } else { s.ring with bank0 := mine, bank1 := other }
      let waits := other.state = .filling ∧ s.cfg.bankLength ≤ other.records.length
      exec .frameSent s = .next { s with
        ring := if waits then banks { state := .filling, records := [] } { other with state := .pending }
          else banks { state := .free, records := [] } other
        line := { after with bankFailures := 0 } }) ∧
    (a.item = .reply true →
      (∀ sc, s.ring.scan = some sc → sc.reply = none → exec .frameSent s = .next { s with
        ring := { s.ring with scan := some (sc.assembled s.ring) }, line := { after with replyFailures := 0 } }) ∧
      ((s.ring.scan = none ∨ ∃ sc, s.ring.scan = some sc ∧ sc.reply ≠ none) →
        exec .frameSent s = .next { s with line := after })) ∧
    (∀ sc reply, a.item = .reply false → s.ring.scan = some sc → sc.reply = some reply →
      exec .frameSent s = .next { s with
        ring := { s.ring with
          scan := if reply.final then none else some ({ sc with reply := none }.assembled s.ring) }
        line := { after with replyFailures := 0 } }) ∧
    (∀ q qs, a.item = .window → s.line.queue = q :: qs → q.inAttempt = true →
      match q.frame with
      | .defer _ _ _ _ _ | .withdraw _ _ => exec .frameSent s = .next { s with line := { after with queue := qs } }
      | .ask _ _ _ _ => ∀ lead, s.win.leadCap = some lead →
        let start := plus lead ((a.delay * 1000000 : Nat) : Int)
        let waiting (ms : Nat) : OwnWindow := { s.win.own with
          state := .waiting, forced := a.forced, urgent := false, responseEnd := some (plus lead 50000000)
          start := some start, finish := some (plus start ((ms * 1000000 : Nat) : Int)), waitEnd := none }
        match s.win.own.cause with
        | .compStep _ => exec .frameSent s = .next (enterWindow
            { id := { station := s.cfg.station, seq := (s.win.own.seq + 15) % 16 }, cls := .compStep, start := start
              finish := plus start ((s.cfg.settle * 1000000 : Nat) : Int), forced := a.forced }
            { s with line := { after with queue := qs }, win := { s.win with own := waiting s.cfg.settle } })
        | .polarize _ | .void => exec .frameSent s = .next { s with
            line := { after with queue := qs }, win := { s.win with own := waiting s.cfg.polarize } })

/-- A mismatch stops the attempt: its frame's failures grow by one, a jam of 400 ticks and a back-off of (generator +
nanoseconds) mod 2^min(n, 5) slots begin, and the frame is pending again or gives way to its next; the eighth failure
drops the frame with FRAME_DROPPED and no back-off (R65, R66, R67, R68, R69, R70). A bank is pending again, or FREE,
and a full bank beside it then closes (R156, R158); a dropped reply leaves a GAP, and a dropped END is offered once
more (R159, R163); a DEFER past its deadline and a WITHDRAW whose window has begun leave the queue in place of failing
(R72, R73), and a dropped window frame tells its owner: the ask is refused with no wait, and a refused window is
entered (R87, R97). That the eighth failure of such a DEFER or WITHDRAW drops it with FRAME_DROPPED, and that a refused
window keeps its unforced mark when it is entered, are the model's readings (log entries 15 and 35). -/
def Obligations.CollisionBacksOff : Prop :=
  ∀ (a : Attempt) (r : Reception) (s : State), s.running = true → s.line.attempt = some a →
    s.line.reception = some r → r.own = true →
    (r.framing = true ∨
      r.chars ≠ (sentChars s.cfg.station s.cfg.role a.kind a.length a.payload).take r.chars.length) →
    let g := s.line.generator
    let g' := g / 2 + if (g + g / 4 + g / 8 + g / 32) % 2 = 1 then 32768 else 0
    let jammed : LineUnit := { s.line with attempt := none, reception := none, ready := false, jam := some 400 }
    let backedOff (n : Nat) : LineUnit := { jammed with
      generator := g'
      backoff := if (g' + s.clock.nanoseconds) % 2 ^ min n 5 = 0 then none
        else some ((g' + s.clock.nanoseconds) % 2 ^ min n 5 * 2000) }
    let again (slot : Slot) : Slot :=
      if slot.waiting then { full := true, failures := 0, waiting := false }
      else { slot with failures := slot.failures + 1 }
    let next (slot : Slot) : Slot := { full := slot.waiting, failures := 0, waiting := false }
    (a.item = .mark →
      (s.line.markSlot.failures < 7 → exec .collision s = .next { s with
        line := { backedOff (s.line.markSlot.failures + 1) with markSlot := again s.line.markSlot } }) ∧
      (7 ≤ s.line.markSlot.failures → exec .collision s = .next (setFlag .frameDropped { s with
        line := { jammed with markSlot := next s.line.markSlot } }))) ∧
    (a.item = .state →
      (s.line.stateSlot.failures < 7 → exec .collision s = .next { s with
        line := { backedOff (s.line.stateSlot.failures + 1) with stateSlot := again s.line.stateSlot } }) ∧
      (7 ≤ s.line.stateSlot.failures → exec .collision s = .next (setFlag .frameDropped { s with
        line := { jammed with stateSlot := next s.line.stateSlot } }))) ∧
    (∀ second : Bool, a.item = .bank second →
      let mine := if second then s.ring.bank1 else s.ring.bank0
      let other := if second then s.ring.bank0 else s.ring.bank1
      let banks (mine other : Bank) : RecordRing :=
        if second then { s.ring with bank0 := other, bank1 := mine } else { s.ring with bank0 := mine, bank1 := other }
      let waits := other.state = .filling ∧ s.cfg.bankLength ≤ other.records.length
      let n := s.line.bankFailures + 1
      (s.line.bankFailures < 7 →
        (¬ waits → exec .collision s = .next { s with
          ring := banks { mine with state := .pending } other, line := { backedOff n with bankFailures := n } }) ∧
        (waits → exec .collision s = .next (setFlag .bankDrop { s with
          ring := banks { state := .filling, records := [] } { other with state := .pending }
          line := { backedOff n with bankFailures := 0 } }))) ∧
      (7 ≤ s.line.bankFailures → exec .collision s = .next (setFlag .frameDropped { s with
        ring := if waits then banks { state := .filling, records := [] } { other with state := .pending }
          else banks { state := .free, records := [] } other
        line := { jammed with bankFailures := 0 } }))) ∧
    (∀ sc reply, a.item = .reply false → s.ring.scan = some sc → sc.reply = some reply →
      let n := s.line.replyFailures + 1
      (s.line.replyFailures < 7 → exec .collision s = .next { s with
        line := { backedOff n with replyFailures := n } }) ∧
      (7 ≤ s.line.replyFailures → exec .collision s = .next (setFlag .frameDropped { s with
        line := { jammed with replyFailures := 0 }
        ring := { s.ring with
          scan :=
            if reply.final = false then some ({ sc with gap := true, reply := none }.assembled s.ring)
            else if sc.endRetried then none
            else some { sc with
              endRetried := true
              reply := some { final := true, notHeld := false, gap := true, records := [] } } } }))) ∧
    (a.item = .reply true →
      let past (l : LineUnit) : State :=
        match s.ring.scan with
        | some sc =>
          if sc.reply = none then { s with
            ring := { s.ring with scan := some (sc.assembled s.ring) }, line := { l with replyFailures := 0 } }
          else { s with line := l }
        | none => { s with line := l }
      (s.line.replyFailures < 7 → exec .collision s = .next (past (backedOff (s.line.replyFailures + 1)))) ∧
      (7 ≤ s.line.replyFailures → exec .collision s = .next (setFlag .frameDropped (past jammed)))) ∧
    ∀ q qs, a.item = .window → s.line.queue = q :: qs → q.inAttempt = true → (∀ x ∈ qs, x.inAttempt = false) →
      let lost (w : Entry) (marked : Bool) (left : State) : State :=
        if marked then left
        else if later w.finish s.reading = true ∧ ∀ x ∈ s.win.list, x.id ≠ w.id then enterWindow w (markOverlapped w left)
        else markOverlapped w left
      (q.failures < 7 →
        let left : State := { s with line := { backedOff (q.failures + 1) with queue := qs } }
        let again : State := { s with
          line := { backedOff (q.failures + 1) with
            queue := { q with failures := q.failures + 1, inAttempt := false } :: qs } }
        exec .collision s = .next (match q.frame with
          | .ask _ _ _ _ => again
          | .defer w lead _ _ marked => if lead + 500000 ≤ s.tick then lost w marked left else again
          | .withdraw _ start => if s.reached start then left else again)) ∧
      (7 ≤ q.failures →
        let left : State := { s with line := { jammed with queue := qs } }
        exec .collision s = .next (setFlag .frameDropped (match q.frame with
          | .ask _ _ _ _ => refuseOwn s.reading false left
          | .defer w _ _ _ marked => lost w marked left
          | .withdraw _ _ => left)))

/-- The line's counts end: the jam after its 400 ticks, the back-off when its last tick has been counted in READY,
STUCK at 500,000 ticks without an idle run, with its return state kept, and STUCK's release at an idle run of 10,000
ticks (R57, R66, R67). That the round count stands at 0 in STUCK is the model's choice (log entry 34). -/
def Obligations.LineCountsEnd : Prop :=
  ∀ s : State, s.running = true →
    (s.line.jam = some 0 → exec .jamEnd s = .next { s with line := { s.line with jam := none } }) ∧
    (s.line.ready = true → s.line.backoff = some 0 →
      exec .backoffEnd s = .next { s with line := { s.line with backoff := none } }) ∧
    (s.line.state ≠ .stuck → 500000 ≤ s.line.stuckTimer →
      exec .stuckLimit s = .next (setFlag .lineStuck { s with
        line := { s.line with state := .stuck, ret := some (s.line.state, s.line.roundCount), roundCount := 0 } })) ∧
    ∀ state n, s.line.state = .stuck → s.line.ret = some (state, n) → 10000 ≤ s.line.idleRun →
      exec .stuckRelease s = .next { s with
        line := { s.line with state := state, roundCount := n, ret := none, stuckTimer := 0 } }

/-! ## The Window Unit (05) -/

/-- An ASK is ignored for its length, class, sender, duration 0 or affect set; otherwise a forced one is entered and
marks what it overlaps; one over the own WAITING ask is refused by a forced own ask or the lower own station, and else
the own ask gives way; one over a protected interval is refused; any other is entered, or refused when the list is full
(R79, R92, R93, R94, R95, R96). Before that, the entry and the held window of the ASK's window id are removed, and the
place that an entry leaves takes the oldest held window not over (R79, R100). A refusal hands its DEFER to the window
queue, a full one too (R71); that the window of a DEFER which then gives way is entered before the list's room is tested
is the model's choice (log entry 37), and that an ASK over both is decided by the own WAITING ask alone is its reading
(log entry 22). -/
def Obligations.AskIsDecided : Prop :=
  ∀ (r : Reception) (s : State), Heard r s → kindOf r = 0x04#8 → senderOf r ≠ s.cfg.station →
    let p := payloadOf r
    let id : WinId := { station := (p.getD 0 0).toNat % 16, seq := (p.getD 0 0).toNat / 16 }
    let ignored := p.length ≠ 9 ∨ natAt 1 1 p ∉ [1, 2] ∨ id.station ≠ senderOf r ∨ natAt 5 2 p = 0 ∨
      (BitVec.ofNat 16 (natAt 7 2 p)).getLsbD s.cfg.station = false
    (ignored → exec .askReceived s = .next (ended s)) ∧
    ∀ lead, ¬ ignored → s.win.leadCap = some lead → ∃ cleared : State,
      -- the entry and the held window of this window id are removed first
      cleared = { ended s with win := { s.win with list := cleared.win.list, held := cleared.win.held } } ∧
      (let held := s.win.held.filter fun e => decide (e.id ≠ id)
       let list := s.win.list.filter fun e => decide (e.id ≠ id)
       let unexpired := held.filter fun x => later x.finish s.reading
       ((∀ e ∈ s.win.list, e.id ≠ id) → cleared.win.list = s.win.list ∧ cleared.win.held = held) ∧
       ((∃ e ∈ s.win.list, e.id = id) →
         (unexpired = [] → cleared.win.list = list ∧ cleared.win.held = []) ∧
         ∀ h hs, unexpired = h :: hs → list.length < 8 →
           ∃ l1 l2, list.filter (fun e => decide (e.id ≠ h.id)) = l1 ++ l2 ∧ (∀ x ∈ l1, later x.start h.start = false) ∧
             (∀ x, l2.head? = some x → later x.start h.start = true) ∧
             cleared.win.list = l1 ++ h :: l2 ∧ cleared.win.held = hs)) ∧
      -- the decision
      let start := plus lead ((min (max (natAt 3 2 p) 80) 5000 * 1000000 : Nat) : Int)
      let w : Entry :=
        { id := id, cls := if natAt 1 1 p = 1 then .polarize else .compStep, start := start
          finish := plus start ((min (natAt 5 2 p) 10000 * 1000000 : Nat) : Int), forced := decide (natAt 2 1 p ≠ 0) }
      let meets (a b : Nat) : Bool := later b (plus w.start (-20000000)) && later (plus w.finish 20000000) a
      let waitingOver := s.win.own.state = .waiting ∧
        ∃ a b, s.win.own.start = some a ∧ s.win.own.finish = some b ∧ meets a b = true
      let conflicts := (s.win.ownProt.toList ++ s.win.counting).filter fun q => meets q.start q.finish
      let deferred (conflictEnd : Nat) (guarded : Bool) : State :=
        joinQueue (.defer w r.leadTick conflictEnd guarded false) cleared
      let refused (conflictEnd : Nat) : State :=
        if (deferred conflictEnd true).win.list.length < 8 then enterWindow w (deferred conflictEnd true)
        else deferred conflictEnd true
      (s.line.queue.length < 4 → ∀ conflictEnd guarded, deferred conflictEnd guarded = { cleared with
        line := { cleared.line with
          queue := s.line.queue ++
            [{ frame := .defer w r.leadTick conflictEnd guarded false, failures := 0, inAttempt := false }] } }) ∧
      (w.forced = true → exec .askReceived s = .next (enterWindow w (markOverlapped w cleared))) ∧
      (w.forced = false →
        (waitingOver →
          (s.win.own.forced = true ∨ s.cfg.station < id.station →
            exec .askReceived s = .next (refused (s.win.own.finish.getD 0))) ∧
          (s.win.own.forced = false → id.station ≤ s.cfg.station →
            exec .askReceived s = .next (enterWindow w (refuseOwn w.finish true cleared)))) ∧
        (¬ waitingOver →
          (∀ q qs, conflicts = q :: qs →
            exec .askReceived s = .next (refused
              (qs.foldl (fun m x => if later x.finish m then x.finish else m) q.finish))) ∧
          (conflicts = [] →
            (cleared.win.list.length < 8 → exec .askReceived s = .next (enterWindow w cleared)) ∧
            (∀ e es, cleared.win.list = e :: es → 8 ≤ cleared.win.list.length →
              exec .askReceived s = .next (deferred
                (es.foldl (fun m x => if later m x.finish then x.finish else m) e.finish) false)))))

/-- A DEFER of the own ask: WAITING and unforced, the ask is refused; in DEFERRED the later end is kept; anything else
is ignored (R85). A refused ask sets OWN_DEFERRED and hands over a WITHDRAW; a COMP_STEP cause leaves the own list and
waits in DEFERRED, a POLARIZE cause ends and its cycle is skipped with CYCLE_SKIPPED (R82, R86). An ask dropped before
it was sent is refused in the same way, but with no WITHDRAW, and with its entries left (R87). -/
def Obligations.OwnAskIsRefused : Prop :=
  (∀ (r : Reception) (s : State), Heard r s → kindOf r = 0x05#8 → senderOf r ≠ s.cfg.station →
    let p := payloadOf r
    let id : WinId := { station := (p.getD 0 0).toNat % 16, seq := (p.getD 0 0).toNat / 16 }
    let own : WinId := { station := s.cfg.station, seq := (s.win.own.seq + 15) % 16 }
    ((p.length ≠ 3 ∨ id ≠ own ∨ s.win.own.state ∈ [.none, .asking, .granted, .opened] ∨
        (s.win.own.state = .waiting ∧ s.win.own.forced = true)) →
      exec .deferReceived s = .next (ended s)) ∧
    ∀ lead, p.length = 3 → id = own → s.win.leadCap = some lead →
      let waitEnd := plus lead ((min (natAt 1 2 p) 60000 * 1000000 : Nat) : Int)
      (s.win.own.state = .waiting → s.win.own.forced = false →
        exec .deferReceived s = .next (refuseOwn waitEnd true (ended s))) ∧
      (∀ e, s.win.own.state = .deferred → s.win.own.waitEnd = some e →
        exec .deferReceived s = .next { ended s with
          win := { s.win with own := { s.win.own with waitEnd := some (if later waitEnd e then waitEnd else e) } } })) ∧
  (∀ (waitEnd : Nat) (s : State),
    let t := refuseOwn waitEnd false s
    t.line.queue = s.line.queue ∧ t.win.list = s.win.list ∧ t.win.held = s.win.held ∧ flagIsSet .ownDeferred t = true ∧
    (∀ set, s.win.own.cause = .compStep set → t = setFlag .ownDeferred { s with
      win := { s.win with
        waitHold := true
        own := { s.win.own with
          state := .deferred, responseEnd := none, start := none, finish := none, waitEnd := some waitEnd } } }) ∧
    ∀ cycle, s.win.own.cause = .polarize cycle →
      t.win.own = { s.win.own with
        state := .none, cause := .void, urgent := false, responseEnd := none, start := none, finish := none
        waitEnd := none } ∧
      t.acq.asked = none ∧ flagIsSet .cycleSkipped t = true) ∧
  ∀ (waitEnd : Nat) (s : State), s.line.queue.length < 4 →
    let own : WinId := { station := s.cfg.station, seq := (s.win.own.seq + 15) % 16 }
    let t := refuseOwn waitEnd true s
    t.line.queue = s.line.queue ++
      [{ frame := .withdraw own (s.win.own.start.getD 0), failures := 0, inAttempt := false }] ∧
    flagIsSet .ownDeferred t = true ∧ t.win.own.seq = s.win.own.seq ∧ t.win.own.nextComps = s.win.own.nextComps ∧
    t.win.own.responseEnd = none ∧ t.win.own.start = none ∧ t.win.own.finish = none ∧
    t.cfg = s.cfg ∧ t.clock = s.clock ∧ t.agr = s.agr ∧ t.ref = s.ref ∧ t.acq.steps = s.acq.steps ∧
    (∀ set, s.win.own.cause = .compStep set →
      t.win.own.state = .deferred ∧ t.win.own.cause = .compStep set ∧ t.win.own.waitEnd = some waitEnd ∧
      (∀ e ∈ t.win.list ++ t.win.held, e.id ≠ own) ∧ t.ring = s.ring) ∧
    ∀ cycle, s.win.own.cause = .polarize cycle →
      t.win.own.state = .none ∧ t.win.own.cause = .void ∧ t.win.own.waitEnd = none ∧ t.acq.asked = none ∧
      flagIsSet .cycleSkipped t = true ∧ t.win.list = s.win.list ∧ t.win.held = s.win.held

/-- When the wait end is reached in DEFERRED, the record hands over a new ASK for the cause kept, with a new sequence
number and so a new window id, and becomes ASKING (R90). The tick after the one that set the wait end is the first that
takes it (R86; the model's waitHold, log entry 9). -/
def Obligations.WaitEndAsksAnew : Prop :=
  ∀ (e : Nat) (s : State), s.running = true → s.win.own.state = .deferred → s.win.waitHold = false →
    s.win.own.waitEnd = some e → s.reached e = true →
    (4 ≤ s.line.queue.length → ∃ q ∈ s.line.queue, q.inAttempt = false ∧ ∀ id cls d a, q.frame ≠ .ask id cls d a) →
    let id : WinId := { station := s.cfg.station, seq := s.win.own.seq }
    ∃ t cls ms affect, exec .waitEnd s = .next t ∧
      ((∃ set, s.win.own.cause = .compStep set) → cls = .compStep ∧ ms = s.cfg.settle ∧ affect = s.cfg.compAffect) ∧
      ((∃ cycle, s.win.own.cause = .polarize cycle) →
        cls = .polarize ∧ ms = s.cfg.polarize ∧ affect = s.cfg.polarizeAffect) ∧
      t.line.queue.getLast? = some { frame := .ask id cls ms affect, failures := 0, inAttempt := false } ∧
      id ≠ { station := s.cfg.station, seq := (s.win.own.seq + 15) % 16 } ∧
      t.win.own = { s.win.own with
        state := .asking, attempts := min (s.win.own.attempts + 1) 255, seq := (s.win.own.seq + 1) % 16
        responseEnd := none, start := none, finish := none, waitEnd := none } ∧
      t = joinQueue (.ask id cls ms affect) { s with win := { s.win with own := t.win.own } }

/-- A window that must be entered takes its place by its start in a list with room, in place of an entry of its window
id; with eight entries it is held and LIST_FULL set, and beyond four held windows blank-all runs to its end (R98, R100;
the place of an entry of the same window id is the model's choice, log entry 30). A window that is entered as a forced
one marks the protected intervals it overlaps, widened by the guard, with FORCED_INTO if there is one (R92, R93, R97).
A frame handed to the window queue joins at the newest end, and a full queue first gives up its oldest DEFER that is
not in an attempt, or else its oldest WITHDRAW (R71). A DEFER that the full queue gives up, or that reaches its
response deadline, leaves the queue; unless a WITHDRAW has marked it, its window marks what it overlaps and is entered
if it is not over and not in the list (R72, R97); of several past their deadline one DEFER_DEADLINE takes the first
(the model's choice, log entry 25). That the window a lost DEFER enters keeps its unforced mark is the model's choice
(log entry 35). -/
def Obligations.WindowsAreEntered : Prop :=
  (∀ (w : Entry) (s : State),
    let l := s.win.list.filter fun e => decide (e.id ≠ w.id)
    (l.length < 8 → ∃ l1 l2, l = l1 ++ l2 ∧ (∀ e ∈ l1, later e.start w.start = false) ∧
      (∀ e, l2.head? = some e → later e.start w.start = true) ∧
      enterWindow w s = { s with win := { s.win with list := l1 ++ w :: l2 } }) ∧
    (8 ≤ l.length → s.win.held.length < 4 →
      enterWindow w s = setFlag .listFull { s with win := { s.win with held := s.win.held ++ [w] } }) ∧
    (8 ≤ l.length → 4 ≤ s.win.held.length →
      enterWindow w s = setFlag .listFull { s with
        win := { s.win with
          blankAllEnd := match s.win.blankAllEnd with
            | none => some w.finish
            | some e => some (if later w.finish e then w.finish else e) } })) ∧
  (∀ (w : Entry) (s : State),
    let meets (p : Protected) : Bool :=
      later p.finish (plus w.start (-20000000)) && later (plus w.finish 20000000) p.start
    let marked (p : Protected) : Protected := { p with mark := p.mark || meets p }
    let t : State := { s with
      win := { s.win with ownProt := s.win.ownProt.map marked, counting := s.win.counting.map marked } }
    markOverlapped w s = if (s.win.ownProt.toList ++ s.win.counting).any meets then setFlag .forcedInto t else t) ∧
  (∀ (f : WinFrame) (s : State),
    let joined (queue : List Queued) : State := { s with
      line := { s.line with queue := queue ++ [{ frame := f, failures := 0, inAttempt := false }] } }
    (s.line.queue.length < 4 → joinQueue f s = joined s.line.queue) ∧
    (∀ w lead e guarded marked n before behind, 4 ≤ s.line.queue.length →
      s.line.queue = before ++ { frame := .defer w lead e guarded marked, failures := n, inAttempt := false } :: behind →
      (∀ q ∈ before, q.inAttempt = true ∨ ∀ w' lead' e' g' m', q.frame ≠ .defer w' lead' e' g' m') →
      joinQueue f s =
        if marked then joined (before ++ behind)
        else if later w.finish s.reading = true ∧ ∀ x ∈ s.win.list, x.id ≠ w.id then
          enterWindow w (markOverlapped w (joined (before ++ behind)))
        else markOverlapped w (joined (before ++ behind))) ∧
    ∀ id start n before behind, 4 ≤ s.line.queue.length →
      s.line.queue = before ++ { frame := .withdraw id start, failures := n, inAttempt := false } :: behind →
      (∀ q ∈ s.line.queue, q.inAttempt = true ∨ ∀ w' lead' e' g' m', q.frame ≠ .defer w' lead' e' g' m') →
      (∀ q ∈ before, q.inAttempt = true ∨ ∀ id' start', q.frame ≠ .withdraw id' start') →
      joinQueue f s = joined (before ++ behind)) ∧
  ∀ (w : Entry) (lead : Nat) (e : Nat) (guarded marked : Bool) (n : Nat) (before behind : List Queued) (s : State),
    s.running = true →
    s.line.queue = before ++ { frame := .defer w lead e guarded marked, failures := n, inAttempt := false } :: behind →
    (∀ q ∈ before, q.inAttempt = true ∨
      ∀ w' lead' e' g' m', q.frame = .defer w' lead' e' g' m' → s.tick < lead' + 500000) →
    lead + 500000 ≤ s.tick →
    let left : State := { s with line := { s.line with queue := before ++ behind } }
    (marked = true → exec .deferDeadline s = .next left) ∧
    (marked = false → exec .deferDeadline s = .next
      (if later w.finish s.reading = true ∧ ∀ x ∈ s.win.list, x.id ≠ w.id then enterWindow w (markOverlapped w left)
       else markOverlapped w left))

/-- What leaves the list and the held windows: a withdrawn window, with its DEFERs marked; an entry at its end, which
makes room for the oldest held window not over; a held window at its end; and blank-all at its own (R98, R99, R100).
That one command takes one entry or one held window, the first that is over, is the model's choice (log entry 25). -/
def Obligations.WindowsLeaveTheList : Prop :=
  (∀ (r : Reception) (s : State), Heard r s → kindOf r = 0x06#8 → senderOf r ≠ s.cfg.station →
    let p := payloadOf r
    let id : WinId := { station := (p.getD 0 0).toNat % 16, seq := (p.getD 0 0).toNat / 16 }
    (p.length ≠ 1 → exec .withdrawReceived s = .next (ended s)) ∧
    (p.length = 1 →
      let marked : List Queued := s.line.queue.map fun q =>
        match q.frame with
        | .defer w lead e guarded _ => if w.id = id then { q with frame := .defer w lead e guarded true } else q
        | .ask _ _ _ _ | .withdraw _ _ => q
      (s.win.held = [] → exec .withdrawReceived s = .next { ended s with
        line := { (ended s).line with queue := marked }
        win := { s.win with list := s.win.list.filter fun e => decide (e.id ≠ id) } }) ∧
      ∃ t, exec .withdrawReceived s = .next t ∧ (∀ e ∈ t.win.list ++ t.win.held, e.id ≠ id) ∧
        t.line = { (ended s).line with queue := marked } ∧ t.win.own = s.win.own ∧ t.win.ownProt = s.win.ownProt ∧
        t.win.counting = s.win.counting ∧ t.acq = s.acq ∧ t.ring = s.ring ∧ t.flag = s.flag)) ∧
  (∀ (e : Entry) (before behind : List Entry) (s : State), s.running = true →
    s.win.list = before ++ e :: behind → (∀ x ∈ before, s.reached x.finish = false) → s.reached e.finish = true →
    let unexpired := s.win.held.filter fun x => later x.finish s.reading
    (unexpired = [] →
      exec .entryEnd s = .next { s with win := { s.win with list := before ++ behind, held := [] } }) ∧
    ∀ h hs, unexpired = h :: hs → (before ++ behind).length < 8 → (∀ x ∈ before ++ behind, x.id ≠ h.id) →
      ∃ l1 l2, before ++ behind = l1 ++ l2 ∧ (∀ x ∈ l1, later x.start h.start = false) ∧
        (∀ x, l2.head? = some x → later x.start h.start = true) ∧
        exec .entryEnd s = .next { s with win := { s.win with list := l1 ++ h :: l2, held := hs } }) ∧
  (∀ (e : Entry) (before behind : List Entry) (s : State), s.running = true →
    s.win.held = before ++ e :: behind → (∀ x ∈ before, s.reached x.finish = false) → s.reached e.finish = true →
    exec .heldWindowExpiry s = .next { s with win := { s.win with held := before ++ behind } }) ∧
  ∀ (e : Nat) (s : State), s.running = true → s.win.blankAllEnd = some e → s.reached e = true →
    exec .blankAllEnd s = .next { s with win := { s.win with blankAllEnd := none } }

/-- At the response end a WAITING ask is granted: the own window, and with POLARIZE the counting phase after it, are
protected intervals, marked where another window of the list or a held one overlaps them by the guard, with FORCED_INTO
when such a window is forced (R88, R92; the own entry is no other window, log entry 21). -/
def Obligations.ResponseEndGrants : Prop :=
  ∀ (e a b : Nat) (s : State), s.running = true → s.win.own.state = .waiting → s.win.own.responseEnd = some e →
    s.reached e = true → s.win.own.start = some a → s.win.own.finish = some b →
    let own : WinId := { station := s.cfg.station, seq := (s.win.own.seq + 15) % 16 }
    let others := (s.win.list ++ s.win.held).filter fun w => decide (w.id ≠ own)
    let meets (w : Entry) (i j : Nat) : Bool := later j (plus w.start (-20000000)) && later (plus w.finish 20000000) i
    let phase := plus b ((s.cfg.count * 1000000 : Nat) : Int)
    let guardOf (i j : Nat) : Protected := { start := i, finish := j, mark := others.any fun w => meets w i j }
    let granted (phases : List Protected) : State := { s with
      win := { s.win with
        own := { s.win.own with state := .granted }, ownProt := some (guardOf a b)
        counting := s.win.counting ++ phases } }
    ((∃ cycle, s.win.own.cause = .polarize cycle) →
      exec .responseEnd s = .next
        (if others.any (fun w => w.forced && (meets w a b || meets w b phase)) then
          setFlag .forcedInto (granted [guardOf b phase])
        else granted [guardOf b phase])) ∧
    ((∃ set, s.win.own.cause = .compStep set) →
      exec .responseEnd s = .next
        (if others.any (fun w => w.forced && meets w a b) then setFlag .forcedInto (granted []) else granted []))

/-- The own window opens at its start: a POLARIZE window turns polarize on for the asked cycle, and a cycle still
COUNTING is cut off, its reading handed over with MISSING; a COMP_STEP window takes each pending direction of its
components, one step each, with its COMP note and COMP_STEPPED. At a window's start the pending WITHDRAWs of windows
whose start is reached leave the queue, and WINDOW_START with no own window GRANTED does that alone (the model's
reading, log entry 17). At its end a POLARIZE window opens the count gate, a COMP_STEP window hands its disturbed mark
on, and the record is NONE, or asks for the next components (R73, R89, R112, R114, R119, R120, R121). -/
def Obligations.OwnWindowOpensAndEnds : Prop :=
  (∀ (a b : Nat) (s : State), s.running = true → s.win.own.state = .granted → s.win.own.start = some a →
    s.reached a = true → s.win.own.finish = some b → (∀ q ∈ s.line.queue, q.withdrawDue s = false) →
    (∀ cycle, s.win.own.cause = .polarize cycle → (∀ m, s.acq.measuring = some m → m.stage = .polarizing) →
      exec .windowStart s = .next { s with
        win := { s.win with own := { s.win.own with state := .opened } }
        acq := { s.acq with
          asked := none, measuring := some { windowEnd := b, stage := .polarizing }, polarizeOut := true
          countOut := false } }) ∧
    (∀ cycle w o e, s.win.own.cause = .polarize cycle →
      s.acq.measuring = some { windowEnd := w, stage := .counting o e } →
      let tag := plus o ((s.cfg.count * 500000 : Nat) : Int)
      let mark := s.win.counting.any fun p => decide (p.finish = e) && p.mark
      let begun : Acquisition := { s.acq with
        asked := none, measuring := some { windowEnd := b, stage := .polarizing }, polarizeOut := true
        countOut := false }
      let opened : WindowUnit := { s.win with own := { s.win.own with state := .opened } }
      (¬ Hands tag s → exec .windowStart s = .next { s with win := opened, acq := begun }) ∧
      (Hands tag s → s.ring.records.length < 16384 →
        ∃ t, exec .windowStart s = .next t ∧ t.win = opened ∧
          t.acq = { begun with stepped := false, lastTag := some (tag - tag % 1000000) } ∧
          HandedOver tag mark true false false none s t)) ∧
    ∀ set, s.win.own.cause = .compStep set →
      ∃ t, exec .windowStart s = .next t ∧
        t.win = { s.win with
          own := { s.win.own with state := .opened, cause := .compStep { x := false, y := false, z := false } } } ∧
        t.acq.ownWin = some { start := a, finish := b, mark := false, isOpen := true } ∧
        (∀ c : Comp,
          (∀ d, set.get c = true → s.acq.pendingDir.get c = some d →
            t.acq.steps.get c = s.acq.steps.get c + (if d = .up then 1 else -1) ∧ t.acq.pendingDir.get c = none ∧
            ∀ v smp, s.acq.conversions.get c.converter = some v → v.job = .field c smp → v.outstanding = true →
              t.acq.conversions.get c.converter = some { v with job := .field c { smp with changed := true } }) ∧
          (set.get c = false ∨ s.acq.pendingDir.get c = none →
            t.acq.steps.get c = s.acq.steps.get c ∧ t.acq.pendingDir.get c = s.acq.pendingDir.get c ∧
            t.acq.conversions.get c.converter = s.acq.conversions.get c.converter)) ∧
        ((∃ c : Comp, set.get c = true ∧ s.acq.pendingDir.get c ≠ none) → flagIsSet .compStepped t = true) ∧
        (s.ring.records.length + 3 ≤ 16384 →
          t.ring.records = s.ring.records ++ [Comp.x, .y, .z].filterMap fun c =>
            if set.get c then (s.acq.pendingDir.get c).map fun _ => noteOf (.comp c (t.acq.steps.get c)) s else none) ∧
        t.acq.port = s.acq.port ∧ t.acq.portQueue = s.acq.portQueue ∧ t.clock = s.clock ∧ t.cfg = s.cfg ∧
        t.corr = s.corr ∧ t.agr = s.agr ∧ t.ref = s.ref) ∧
  (∀ s : State, s.running = true → s.win.own.state ≠ .granted →
    exec .windowStart s = .next { s with
      line := { s.line with
        queue := s.line.queue.filter fun q =>
          !(!q.inAttempt && match q.frame with
            | .withdraw _ start => s.reached start
            | .ask _ _ _ _ | .defer _ _ _ _ _ => false) } }) ∧
  ∀ (b : Nat) (s : State), s.running = true → s.win.own.state = .opened → s.win.own.finish = some b →
    s.reached b = true →
    let mark := s.win.ownProt.any (·.mark)
    let none' : OwnWindow := { s.win.own with
      state := .none, cause := .void, urgent := false, responseEnd := none, start := none, finish := none
      waitEnd := none }
    (s.win.own.nextComps = { x := false, y := false, z := false } →
      (∀ cycle, s.win.own.cause = .polarize cycle → exec .windowEnd s = .next { s with
        win := { s.win with
          own := none', ownProt := none
          counting := s.win.counting.map fun p => if p.start = b then { p with mark := p.mark || mark } else p }
        acq := { s.acq with
          polarizeOut := false, countOut := true
          measuring := some
            { windowEnd := b, stage := .counting b (plus b ((s.cfg.count * 1000000 : Nat) : Int)) } } }) ∧
      (∀ set, s.win.own.cause = .compStep set → exec .windowEnd s = .next { s with
        win := { s.win with own := none', ownProt := none }
        acq := { s.acq with ownWin := s.acq.ownWin.map fun w => { w with mark := mark, isOpen := false } } })) ∧
    (s.win.own.nextComps ≠ { x := false, y := false, z := false } → s.line.queue.length < 4 →
      ∃ t, exec .windowEnd s = .next t ∧
        t.win.own = { s.win.own with
          state := .asking, cause := .compStep s.win.own.nextComps, nextComps := { x := false, y := false, z := false }
          attempts := 1, seq := (s.win.own.seq + 1) % 16, responseEnd := none, start := none, finish := none
          waitEnd := none } ∧
        t.line.queue = s.line.queue ++
          [{ frame := .ask { station := s.cfg.station, seq := s.win.own.seq } .compStep s.cfg.settle s.cfg.compAffect
             failures := 0, inAttempt := false }])

/-! ## The Acquisition Unit and the Correction Unit (06, 07) -/

/-- A trigger instant asks for a start of each field converter, with the steps and the blanking answer of the instant,
and collects the instant in the second being gathered, beginning one if there is none (R101, R107, R108, R109, R124). A
probe scan starts a conversion of the probe its place in the second names, and one still under way is missing, which
fails its probe (R106, R115, R116). Neither is taken at the tick of the step that set it anew (the model's scanHold,
log entry 9). That a conversion not yet outstanding is missing too is the model's choice (log entry 36). -/
def Obligations.TriggersAndScansStartConversions : Prop :=
  ∀ s : State, s.running = true → s.acq.scanHold = false →
    (s.cfg.role = .vector → s.reached s.acq.nextTrigger = true → s.acq.conversions.fc0 = none →
      s.acq.conversions.fc1 = none → s.acq.conversions.fc2 = none →
      let x := s.acq.nextTrigger
      let second := plus x 500000000 / 1000000000
      let covering := s.win.list.filter fun e => notBefore x e.start && later e.finish x
      let blankAll := decide (s.win.held ≠ []) || s.win.blankAllEnd.any fun e => !s.reached e
      let collected := (∀ l, s.acq.lastClosed = some l → 0 < secondsDifference second l) ∧
        ∀ g, s.acq.gathering = some g → g.second = second
      let start (c : Comp) (id : Nat) (serves : Serves) : Conversion :=
        { id := id, outstanding := false, deadline := 0, nextPoll := none, readAsked := false
          job := .field c
            { serves := serves, steps := s.acq.steps.get c, blanked := blankAll || decide (covering ≠ [])
              blankAll := blankAll, byCompStep := covering.any fun e => decide (e.cls = .compStep), changed := false } }
      let started (serves : Serves) (gathering : Option Gathering) : State := { s with
        acq := { s.acq with
          nextTrigger := plus x 100000000, gathering := gathering, serial := s.acq.serial + 3
          conversions := { s.acq.conversions with
            fc0 := some (start .x s.acq.serial serves), fc1 := some (start .y (s.acq.serial + 1) serves)
            fc2 := some (start .z (s.acq.serial + 2) serves) }
          portQueue := s.acq.portQueue ++
            [{ conv := .fc0, kind := .start, probe := 0, id := s.acq.serial },
             { conv := .fc1, kind := .start, probe := 0, id := s.acq.serial + 1 },
             { conv := .fc2, kind := .start, probe := 0, id := s.acq.serial + 2 }] } }
      let one : Accum := { collected := 1, blanked := 0, missing := 0, saturated := 0, valid := 0, sum := 0 }
      (collected → s.acq.gathering = none →
        exec .triggerInstant s = .next (started (.second second) (some { second := second, acc := ⟨one, one, one⟩ }))) ∧
      (∀ g, collected → s.acq.gathering = some g →
        exec .triggerInstant s = .next (started (.second second) (some
          { second := second, acc := g.acc.map fun a => { a with collected := a.collected + 1 } }))) ∧
      (¬ collected → exec .triggerInstant s = .next (started .uncollected s.acq.gathering))) ∧
    (s.cfg.role = .vector ∨ s.cfg.role = .scalar → s.reached s.acq.nextScan = true →
      let x := s.acq.nextScan
      let scanned : State := { s with
        acq := { s.acq with
          nextScan := plus x 250000000, serial := s.acq.serial + 1
          conversions := { s.acq.conversions with
            tc := some
              { id := s.acq.serial, job := .probe ((x % 1000000000 - 125000000) / 250000000), outstanding := false
                deadline := 0, nextPoll := none, readAsked := false } }
          portQueue := s.acq.portQueue ++
            [{ conv := .tc, kind := .start, probe := (x % 1000000000 - 125000000) / 250000000, id := s.acq.serial }] } }
      (s.acq.conversions.tc = none → exec .probeScan s = .next scanned) ∧
      ∀ v j p, s.acq.conversions.tc = some v → v.job = .probe j → s.acq.probes[j]? = some p → p.status ≠ .failed →
        exec .probeScan s = .next (setFlag .probeFail { scanned with
          acq := { scanned.acq with probes := s.acq.probes.set j { p with status := .failed } } }))

/-- The converter port: a free port begins the transfer requested first; at its start's end a conversion is
outstanding, its deadline 80 ms away, 200 ms for the temperature converter, its first poll 1 ms away; a poll is
requested every 1 ms until one reads bit 0 set, which requests the read (R105, R106). What the node sends in each
transfer and while the image is read, on which chip select, each byte from its most significant bit, one bit a period
of the port clock, which idles low; and a poll's status is ready by its bit 0, the last of the eight bits sampled at
the clock's rising edges (R199). That the dummies of a read are 0x00 is the model's choice (log entry 32), and that
the data input's levels come as one for each edge of the clock is too (log entry 2). That no poll is requested once
the read is, is the model's reading (log entry 28). -/
def Obligations.ConversionsRun : Prop :=
  (∀ t : Transfer,
    (t.kind = .start → t.sends = [0x10#8 + BitVec.ofNat 8 t.probe]) ∧
    (t.kind = .poll → t.sends = [0x20#8, 0x00#8]) ∧
    (t.kind = .read → t.sends = match t.conv with
      | .fc0 | .fc1 | .fc2 => [0x30#8, 0x00#8, 0x00#8, 0x00#8]
      | .tc => [0x30#8, 0x00#8, 0x00#8]
      | .sc => [0x30#8, 0x00#8, 0x00#8, 0x00#8, 0x00#8])) ∧
  (∀ s : State,
    (s.loader.phase = .readingImage → s.selected = some .ce ∧ s.portSends = [0x03#8, 0x00#8, 0x00#8]) ∧
    (s.running = true →
      (s.acq.port = none → s.selected = none ∧ s.portSends = []) ∧
      ∀ t began, s.acq.port = some (t, began) → s.selected = some (.converter t.conv) ∧ s.portSends = t.sends) ∧
    (s.running = false → s.loader.phase ≠ .readingImage → s.selected = none ∧ s.portSends = [])) ∧
  (∀ bs : List Byte, (portBits bs).length = 8 * bs.length ∧
    ∀ (b : Byte) (i j : Nat), bs[i]? = some b → j < 8 → (portBits bs)[8 * i + j]? = some (b.getLsbD (7 - j))) ∧
  (∀ s : State,
    (s.selected = none → ∀ n, s.sck n = false) ∧
    (s.selected ≠ none → s.sck 0 = false ∧ ∀ n, s.sck (n + 1) = !s.sck n) ∧
    (∀ n, 8 * s.portSends.length ≤ n → s.sdo n = none) ∧
    ∀ (b : Byte) (i j : Nat), s.portSends[i]? = some b → j < 8 → s.sdo (8 * i + j) = some (b.getLsbD (7 - j))) ∧
  (∀ (t : Transfer) (ts : List Transfer) (s : State), s.running = true → s.acq.port = none → s.acq.portQueue = t :: ts →
    exec .transferBegin s = .next { s with acq := { s.acq with port := some (t, s.tick), portQueue := ts } }) ∧
  (∀ (t : Transfer) (began : Nat) (v : Conversion) (s : State), s.running = true → s.acq.port = some (t, began) →
    t.kind = .start → began + 40 ≤ s.tick → s.acq.conversions.get t.conv = some v → v.id = t.id →
    exec .startComplete s = .next { s with
      acq := { s.acq with
        port := none
        conversions := s.acq.conversions.set t.conv (some { v with
          outstanding := true, nextPoll := some (s.tick + 10000)
          deadline :=
            if v.outstanding then v.deadline
            else match v.job with
              | .field _ _ => s.tick + 800000
              | .probe _ | .counter => s.tick + 2000000 }) } }) ∧
  (∀ (k : Converter) (n : Nat) (v : Conversion) (s : State), s.running = true → s.acq.conversions.get k = some v →
    v.outstanding = true → v.readAsked = false → v.nextPoll = some n → n ≤ s.tick →
    exec (.poll k) s = .next { s with
      acq := { s.acq with
        conversions := s.acq.conversions.set k (some { v with nextPoll := some (n + 10000) })
        portQueue := s.acq.portQueue ++ [{ conv := k, kind := .poll, probe := 0, id := v.id }] } }) ∧
  ∀ (levels : List Bool) (t : Transfer) (began : Nat) (v : Conversion) (s : State), s.running = true →
    s.acq.port = some (t, began) → t.kind = .poll → began + 80 ≤ s.tick → s.acq.conversions.get t.conv = some v →
    v.id = t.id → v.outstanding = true → v.readAsked = false →
    (byteTaken 0 levels % 2 = 1 ↔ levels.getD 14 true = true) ∧
    (byteTaken 0 levels % 2 = 0 →
      exec (.pollComplete levels) s = .next { s with acq := { s.acq with port := none } }) ∧
    (byteTaken 0 levels % 2 = 1 →
      exec (.pollComplete levels) s = .next { s with
        acq := { s.acq with
          port := none
          conversions := s.acq.conversions.set t.conv (some { v with readAsked := true })
          portQueue := s.acq.portQueue ++ [{ conv := t.conv, kind := .read, probe := 0, id := v.id }] } })

/-- A result is taken for its kind, and a read whose conversion has ended only frees the port (R106). A field sample
is blanked, saturated, or valid with the steps' field added, in the second it serves, and in none when it is
uncollected or abandoned (R124). Tested unless abandoned or blanked by blank-all, by COMP_STEP or by a compensation
change, so also when POLARIZE alone blanks it, a count beyond near range begins an own window, joins the cause's set
of the one outstanding, or the next components of an OPEN one (R82), or sets COMP_LIMIT at the limit; and a saturated
one sets SATURATED and makes the ask urgent, which in DEFERRED is asked at once; a probe's reading is good from 1 to
65,534 and else fails the probe; at its deadline a field sample is missing, or blanked, and a probe failed (R91, R106,
R108, R109, R110, R111, R116, R199). -/
def Obligations.ResultsAreTaken : Prop :=
  (∀ (t : Transfer) (began : Nat) (s : State), s.running = true → s.acq.port = some (t, began) → t.kind = .read →
    let time := match t.conv with | .fc0 | .fc1 | .fc2 => 160 | .tc => 120 | .sc => 200
    began + time ≤ s.tick →
    -- the conversion has ended
    ((∀ v, s.acq.conversions.get t.conv = some v → v.id ≠ t.id) → ∀ levels,
      exec (.resultArrival levels) s = .next { s with acq := { s.acq with port := none } }) ∧
    ∀ v, s.acq.conversions.get t.conv = some v → v.id = t.id →
    (∀ (c : Comp) (smp : Sample) (levels : List Bool), t.conv = c.converter → v.job = .field c smp →
      let r := countOf (byteTaken 0 levels) (byteTaken 1 levels) (byteTaken 2 levels)
      let value : Int := smp.steps * s.cfg.stepSize + roundHalfAway (r * (s.cfg.comps.get c).factor) 1000
      let full := r = 8388607 ∨ r = -8388608
      let near := r < -7340032 ∨ 7340032 < r
      let d : Dir := if 0 < r then .up else .down
      let limit := (0 < r ∧ 32 ≤ s.acq.steps.get c) ∨ (r < 0 ∧ s.acq.steps.get c ≤ -32)
      let tested := smp.blankAll = false ∧ smp.byCompStep = false ∧ smp.changed = false ∧ smp.serves ≠ .abandoned
      -- what the sample leaves: it enters the second it serves
      let done : Acquisition := { s.acq with port := none, conversions := s.acq.conversions.set t.conv none }
      let class' (a : Accum) : Accum :=
        if smp.blanked = true ∨ smp.changed = true then { a with blanked := a.blanked + 1 }
        else if full then { a with saturated := a.saturated + 1 }
        else { a with valid := a.valid + 1, sum := a.sum + value }
      ∃ entered : Acquisition,
        (∀ g, smp.serves = .second g.second → s.acq.gathering = some g →
          entered = { done with gathering := some { g with acc := g.acc.set c (class' (g.acc.get c)) } }) ∧
        ((∀ g, s.acq.gathering = some g → smp.serves ≠ .second g.second) → entered = done) ∧
        (¬ tested ∨ ¬ near → exec (.resultArrival levels) s = .next { s with acq := entered }) ∧
        (tested → near →
          let raised := s.acq.pendingDir.get c = none ∧ ¬ limit
          let asks : Acquisition := { entered with pendingDir := s.acq.pendingDir.set c (some d) }
          let ask : Queued :=
            { frame := .ask { station := s.cfg.station, seq := s.win.own.seq } .compStep s.cfg.settle s.cfg.compAffect
              failures := 0, inAttempt := false }
          -- no own window: one is begun
          (raised → s.win.own.state = .none → s.line.queue.length < 4 →
            ∃ u, exec (.resultArrival levels) s = .next u ∧ u.acq = asks ∧
              u.win.own.state = .asking ∧ u.win.own.cause = .compStep ((Triple.all false).set c true) ∧
              u.win.own.attempts = 1 ∧ u.line.queue = s.line.queue ++ [ask] ∧ u.ring = s.ring ∧
              (¬ full → u.flag = s.flag ∧ u.win.own.urgent = s.win.own.urgent) ∧
              (full → flagIsSet .saturated u = true ∧ u.win.own.urgent = true)) ∧
          -- an own window is outstanding, or nothing is asked
          (¬ (raised ∧ s.win.own.state = .none) →
            let own : OwnWindow :=
              if raised then
                if s.win.own.state = .opened then { s.win.own with nextComps := s.win.own.nextComps.set c true }
                else match s.win.own.cause with
                  | .compStep set => { s.win.own with cause := .compStep (set.set c true) }
                  | .polarize _ | .void => s.win.own
              else s.win.own
            let acq : Acquisition := if raised then asks else entered
            let inCause := ∃ set, own.cause = .compStep set ∧ set.get c = true
            let inNext := own.nextComps.get c = true
            let reached := ((inCause ∨ inNext) ∧ s.win.own.state ∈ [.asking, .waiting, .granted]) ∨
              (inNext ∧ s.win.own.state = .opened)
            (¬ full → s.acq.pendingDir.get c ≠ none ∨ ¬ limit →
              exec (.resultArrival levels) s = .next { s with acq := acq, win := { s.win with own := own } }) ∧
            ∃ u, exec (.resultArrival levels) s = .next u ∧ u.acq = acq ∧ u.ring = s.ring ∧
              (s.acq.pendingDir.get c = none → limit → flagIsSet .compLimit u = true) ∧
              (full → flagIsSet .saturated u = true) ∧
              (¬ full ∨ (¬ reached ∧ ¬ ((inCause ∨ inNext) ∧ s.win.own.state = .deferred)) →
                u.win = { s.win with own := own } ∧ u.line.queue = s.line.queue) ∧
              (full → reached →
                u.win = { s.win with own := { own with urgent := true } } ∧ u.line.queue = s.line.queue) ∧
              (full → inCause → s.win.own.state = .deferred → s.line.queue.length < 4 →
                u.win = { s.win with
                  own := { own with
                    urgent := true, state := .asking, attempts := min (own.attempts + 1) 255
                    seq := (own.seq + 1) % 16, responseEnd := none, start := none, finish := none, waitEnd := none } } ∧
                u.line.queue = s.line.queue ++ [ask])))) ∧
    ∀ (j : Nat) (p : Probe) (levels : List Bool), t.conv = .tc → v.job = .probe j → s.acq.probes[j]? = some p →
      let n := 256 * byteTaken 0 levels + byteTaken 1 levels
      let taken (q : Probe) : State := { s with
        acq := { s.acq with
          port := none, conversions := { s.acq.conversions with tc := none }, probes := s.acq.probes.set j q } }
      (1 ≤ n → n ≤ 65534 →
        exec (.resultArrival levels) s =
          .next (taken { status := .good, count := some n, lastGood := some s.reading })) ∧
      (n = 0 ∨ n = 65535 →
        exec (.resultArrival levels) s = .next
          (if p.status = .failed then taken p else setFlag .probeFail (taken { p with status := .failed })))) ∧
  ∀ (k : Converter) (v : Conversion) (s : State), s.running = true → s.acq.conversions.get k = some v →
    v.outstanding = true → v.deadline ≤ s.tick →
    (∀ c smp, v.job = .field c smp →
      let ended' : Acquisition := { s.acq with conversions := s.acq.conversions.set k none }
      (∀ g, smp.serves = .second g.second → s.acq.gathering = some g →
        let acc := g.acc.get c
        exec (.conversionDeadline k) s = .next { s with
          acq := { ended' with
            gathering := some { g with
              acc := g.acc.set c
                (if smp.blanked = true ∨ smp.changed = true then { acc with blanked := acc.blanked + 1 }
                 else { acc with missing := acc.missing + 1 }) } } }) ∧
      ((∀ g, s.acq.gathering = some g → smp.serves ≠ .second g.second) →
        exec (.conversionDeadline k) s = .next { s with acq := ended' })) ∧
    ∀ j p, v.job = .probe j → s.acq.probes[j]? = some p → p.status ≠ .failed →
      exec (.conversionDeadline k) s = .next (setFlag .probeFail { s with
        acq := { s.acq with
          conversions := s.acq.conversions.set k none, probes := s.acq.probes.set j { p with status := .failed } } })

/-- At its closure instant the second being gathered is closed: an OWN record with the corrected value of each
component that has enough valid samples (R130, R131, R132, R135), the valid counts, the temperature of probe 0 and
every record flag, DISTURBED and the temperature flags among them, is committed (R109, R114, R129, R137, R138); it
joins the recent-F buffer (R140) and the FILLING bank of the two, or with none the lower-numbered FREE one, which
closes when it holds B records (R155, R156); the next second is gathered, and the STEPPED marker is cleared (R107,
R109). The temperature state is that of the probe at the closure instant (R117). -/
def Obligations.SecondsAreClosed : Prop :=
  (∀ (p : Probe) (x : NodeTime),
    (p.status = .void ∨ (p.status = .failed ∧ p.count = none) → p.stateAt x = .noTemp) ∧
    ∀ n, p.count = some n →
      (p.status = .good → p.stateAt x = .good n) ∧
      ∀ last, p.status = .failed → p.lastGood = some last →
        p.stateAt x = if 600000000000 < diff x last then .stale n else .held n) ∧
  ∀ (g : Gathering) (s : State), s.running = true → s.cfg.role = .vector → s.acq.gathering = some g →
    1 ≤ s.cfg.minSamples →
    let instant := plus (g.second % 4294967296 * 1000000000) 540000000
    s.reached instant = true → s.ring.records.length < 16384 →
    let present (c : Comp) : Prop := s.cfg.minSamples ≤ (g.acc.get c).valid
    let state (c : Comp) : TempState := (s.acq.probe (s.cfg.comps.get c).probe).stateAt instant
    let some' (p : Accum → Bool) : Bool := p g.acc.x || p g.acc.y || p g.acc.z
    ∃ t r v, exec .secondClosure s = .next t ∧ t.ring.records = s.ring.records ++ [r] ∧ r.body = .own v ∧
      r.station = s.cfg.station ∧ r.role = .vector ∧ r.seconds = g.second ∧ r.millis = 0 ∧
      r.timebase = s.clock.state ∧ v.valid = g.acc.map (·.valid) ∧ RecordTemperature s instant v.temperature ∧
      (∃ edge : Comp → Bool,
        (∀ c : Comp,
          (¬ present c → v.value.get c = none) ∧
          (present c → ∃ mean value, HalfAway (g.acc.get c).sum (g.acc.get c).valid mean ∧
            CorrectedValue s.cfg (s.cfg.comps.get c) (state c) mean value (edge c) ∧ v.value.get c = some value)) ∧
        (r.flags.tableEdge = true ↔ ∃ c, present c ∧ edge c = true)) ∧
      r.flags.stepped = s.acq.stepped ∧ r.flags.blanked = some' (fun a => decide (0 < a.blanked)) ∧
      r.flags.partly = some' (fun a => decide (a.valid < 10)) ∧
      r.flags.saturated = some' (fun a => decide (0 < a.saturated)) ∧
      r.flags.missing = some' (fun a => decide (0 < a.missing)) ∧ r.flags.skipped = false ∧
      (r.flags.noTemp = true ↔ ∃ c, present c ∧ state c = .noTemp) ∧
      (r.flags.tempHeld = true ↔ ∃ c n, present c ∧ (state c = .held n ∨ state c = .stale n)) ∧
      (r.flags.tempStale = true ↔ ∃ c n, present c ∧ state c = .stale n) ∧
      (r.flags.disturbed = true ↔ ∃ w, s.acq.ownWin = some w ∧
        (if w.isOpen then ∃ p, s.win.ownProt = some p ∧ p.mark = true else w.mark = true) ∧
        ∃ i < 10, let x := plus (g.second % 4294967296 * 1000000000) (-450000000 + 100000000 * (i : Nat))
          notBefore x w.start = true ∧ later w.finish x = true) ∧
      (r.flags.tableEdge = true → flagIsSet .tableEdge t = true) ∧
      (∀ x y z, v.value = ⟨some x, some y, some z⟩ → s.cfg.partner ≠ none → r.flags.disturbed = false →
        t.corr = { s.corr with
          recentF := (if 64 ≤ s.corr.recentF.length then s.corr.recentF.tail else s.corr.recentF) ++
            [(g.second, totalField ⟨x, y, z⟩)] }) ∧
      (s.cfg.partner = none ∨ r.flags.disturbed = true ∨ (∃ c : Comp, v.value.get c = none) → t.corr = s.corr) ∧
      t.acq = { s.acq with
        stepped := false, lastClosed := some g.second
        gathering := some { second := (g.second + 1) % 4294967296, acc := Triple.all Accum.empty } } ∧
      t.win = s.win ∧ t.agr = s.agr ∧ t.ref = s.ref ∧ t.line.queue = s.line.queue ∧ t.line.markSlot = s.line.markSlot ∧
      ∀ second : Bool,
        let mine (g : RecordRing) : Bank := if second then g.bank1 else g.bank0
        let other (g : RecordRing) : Bank := if second then g.bank0 else g.bank1
        let joined := (mine s.ring).records ++ [r]
        -- the FILLING bank, or with none the lower-numbered FREE one
        ((mine s.ring).state = .filling ∧ (other s.ring).state ≠ .filling) ∨
          ((mine s.ring).state = .free ∧ (mine s.ring).records = [] ∧ (other s.ring).state ≠ .filling ∧
            (second = true → (other s.ring).state ≠ .free)) →
        (joined.length < s.cfg.bankLength →
          mine t.ring = { state := .filling, records := joined } ∧ other t.ring = other s.ring) ∧
        (joined.length = s.cfg.bankLength →
          ((other s.ring).state = .free ∨ (other s.ring).state = .pending →
            mine t.ring = { state := .pending, records := joined } ∧
            other t.ring = { state := .filling, records := [] }) ∧
          ((other s.ring).state = .pending → flagIsSet .bankDrop t = true) ∧
          ((other s.ring).state = .sending →
            mine t.ring = { state := .filling, records := joined } ∧ other t.ring = other s.ring)) ∧
        (s.cfg.bankLength < joined.length →
          mine t.ring = { state := .filling, records := (mine s.ring).records.tail ++ [r] } ∧
          other t.ring = other s.ring ∧ flagIsSet .bankDrop t = true)

/-- At its ask instant a SCALAR node with no own window asks for its POLARIZE window, and one whose window record is
busy skips the cycle: a record with no value, SKIPPED, and CYCLE_SKIPPED; either way the next ask instant is a cycle on
(R82, R83, R118, R122). At the count end the gate closes, the cycle is READING and the counter's conversion is
outstanding, its deadline 200 ms away; every counting phase whose end is reached leaves the protected intervals, one
cut off too (R92, R119, R120; log entry 18). The counter's result makes the OWN record of the reading, tagged at the
middle of its count, the frequency held within 17 kHz with SATURATED and 0 taken as missing; its deadline makes one
with MISSING; a reading whose tag is not later than the last is discarded, and the STEPPED marker stays (R106, R121,
R136). That the probe's state is taken at the reading of the hand-over is the model's reading (log entry 27). So is the
next ask instant C on, also across the wrap of the seconds (log entry 20). -/
def Obligations.ScalarCycleRuns : Prop :=
  (∀ s : State, s.running = true → s.cfg.role = .scalar → s.reached s.acq.nextAsk = true →
    let cycle := plus s.acq.nextAsk 500000000
    let next := plus s.acq.nextAsk ((s.cfg.cycle * 1000000000 : Nat) : Int)
    let tag := plus cycle ((s.cfg.polarize * 1000000 + s.cfg.count * 500000 : Nat) : Int)
    let asked : Acquisition := { s.acq with lastAsk := some s.acq.nextAsk, nextAsk := next }
    (s.win.own.state = .none → s.line.queue.length < 4 →
      exec .askInstant s = .next { s with
        acq := { asked with asked := some cycle }
        win := { s.win with
          own := { s.win.own with
            state := .asking, cause := .polarize cycle, attempts := 1, seq := (s.win.own.seq + 1) % 16
            responseEnd := none, start := none, finish := none, waitEnd := none } }
        line := { s.line with
          queue := s.line.queue ++
            [{ frame := .ask { station := s.cfg.station, seq := s.win.own.seq } .polarize s.cfg.polarize
                 s.cfg.polarizeAffect
               failures := 0, inAttempt := false }] } }) ∧
    (s.win.own.state ≠ .none → ¬ Hands tag s →
      exec .askInstant s = .next (setFlag .cycleSkipped { s with acq := asked })) ∧
    (s.win.own.state ≠ .none → Hands tag s → s.ring.records.length < 16384 →
      ∃ t, exec .askInstant s = .next t ∧
        t.acq = { asked with stepped := false, lastTag := some (tag - tag % 1000000) } ∧ t.win = s.win ∧
        flagIsSet .cycleSkipped t = true ∧ HandedOver tag false false true false none s t)) ∧
  (∀ (v : Conversion) (rd : Reading) (s : State), s.running = true → s.acq.conversions.sc = some v → v.job = .counter →
    s.acq.reading = some rd →
    let tag := plus rd.openTime ((s.cfg.count * 500000 : Nat) : Int)
    let past : Acquisition := { s.acq with reading := none, conversions := { s.acq.conversions with sc := none } }
    let told (a : Acquisition) : Acquisition := { a with stepped := false, lastTag := some (tag - tag % 1000000) }
    -- the result
    (∀ (t : Transfer) (began : Nat) (levels : List Bool), s.acq.port = some (t, began) → t.kind = .read → t.conv = .sc →
      began + 200 ≤ s.tick → v.id = t.id →
      let f := 16777216 * byteTaken 0 levels + 65536 * byteTaken 1 levels + 256 * byteTaken 2 levels +
        byteTaken 3 levels
      (¬ Hands tag s → exec (.resultArrival levels) s = .next { s with acq := { past with port := none } }) ∧
      (Hands tag s → s.ring.records.length < 16384 →
        ∃ u value, exec (.resultArrival levels) s = .next u ∧ u.acq = told { past with port := none } ∧
          HandedOver tag rd.mark (decide (f = 0)) false (decide (17000000 < f)) value s u ∧
          (17000000 < f → flagIsSet .saturated u = true) ∧
          (f = 0 → value = none) ∧
          (f ≠ 0 → ∃ field x edge, HalfAway ((min f 17000000 * 234872 : Nat) : Int) 10000 field ∧
            CorrectedValue s.cfg s.cfg.comps.x ((s.acq.probe s.cfg.comps.x.probe).stateAt s.reading) field x edge ∧
            value = some x ∧ (edge = true → flagIsSet .tableEdge u = true)))) ∧
    -- the deadline
    (v.outstanding = true → v.deadline ≤ s.tick →
      (¬ Hands tag s → exec (.conversionDeadline .sc) s = .next { s with acq := past }) ∧
      (Hands tag s → s.ring.records.length < 16384 →
        ∃ u, exec (.conversionDeadline .sc) s = .next u ∧ u.acq = told past ∧
          HandedOver tag rd.mark true false false none s u))) ∧
  (∀ s : State, s.running = true →
    let dropped : WindowUnit := { s.win with counting := s.win.counting.filter fun p => !s.reached p.finish }
    (∀ w o e, s.acq.measuring = some { windowEnd := w, stage := .counting o e } → s.reached e = true →
      s.acq.conversions.sc = none →
      exec .countEnd s = .next { s with
        acq := { s.acq with
          countOut := false, measuring := none, serial := s.acq.serial + 1
          reading := some { openTime := o, mark := s.win.counting.any fun p => decide (p.finish = e) && p.mark }
          conversions := { s.acq.conversions with
            sc := some
              { id := s.acq.serial, job := .counter, outstanding := true, deadline := s.tick + 2000000, nextPoll := none
                readAsked := false } }
          portQueue := s.acq.portQueue ++ [{ conv := .sc, kind := .start, probe := 0, id := s.acq.serial }] }
        win := dropped }) ∧
    ((∀ w o e, s.acq.measuring = some { windowEnd := w, stage := .counting o e } → s.reached e = false) →
      exec .countEnd s = .next { s with win := dropped }))

/-- F_v is the floor of the exact square root of X² + Y² + Z², at most 692,820,323 pT; the buffer takes it as computed,
and only a CHECK record's copy is clamped (R141). -/
def Obligations.TotalFieldIsTheFloorOfTheRoot : Prop :=
  (∀ x y z : Int, x.natAbs ≤ 400000000 → y.natAbs ≤ 400000000 → z.natAbs ≤ 400000000 →
    ((totalField ⟨x, y, z⟩ : Nat) : Int) * totalField ⟨x, y, z⟩ ≤ x * x + y * y + z * z ∧
    x * x + y * y + z * z < ((totalField ⟨x, y, z⟩ : Nat) + 1 : Int) * (totalField ⟨x, y, z⟩ + 1) ∧
    totalField ⟨x, y, z⟩ ≤ 692820323 ∧ x * x ≤ 160000000000000000 ∧
    x * x + y * y + z * z ≤ 480000000000000000 ∧ x * x + y * y + z * z < 18446744073709551616) ∧
  (totalField ⟨11200000, -1500000, 48700000⟩ = 49993799 ∧ totalField ⟨3000, 4000, 0⟩ = 5000 ∧
    totalField ⟨1, 1, 1⟩ = 1) ∧
  (∀ (r : Record) (v : Values) (x y z : Int) (s : State), v.value = ⟨some x, some y, some z⟩ → s.cfg.role = .vector →
    s.cfg.partner ≠ none → r.flags.disturbed = false →
    (bufferRecord r v s).corr.recentF.getLast? = some (r.seconds, totalField ⟨x, y, z⟩)) ∧
  ∀ (s : State) (second : Nat) (fs : Int) (fv : Nat), ∃ d,
    (checkRecord s second fs fv).body = .check fs (clampTo (-400000000) 400000000 fv) d

/-- A temperature at or between two breakpoints of a rising table is corrected by the interpolated offset and scale
error, the quotient rounded half away from zero, so that both lie between their breakpoints' values; beyond the table's
ends the end values hold with TABLE_EDGE; a table of one breakpoint holds everywhere, an empty one corrects nothing
(R133, R134). -/
def Obligations.TablesAreInterpolated : Prop :=
  (∀ (before behind : List Breakpoint) (a b : Breakpoint) (t : Int),
    (before ++ a :: b :: behind).Pairwise (fun p q => p.temperature < q.temperature) →
    a.temperature ≤ t → t < b.temperature →
    let den := b.temperature - a.temperature
    let quotient (u v q : Int) : Prop :=
      2 * ((v - u) * (t - a.temperature) - q * den).natAbs ≤ den.natAbs ∧
      (2 * ((v - u) * (t - a.temperature) - q * den).natAbs = den.natAbs →
        ((v - u) * (t - a.temperature)).natAbs < (q * den).natAbs) ∧
      (min u v ≤ u + q ∧ u + q ≤ max u v)
    ∃ q q', lookUp (before ++ a :: b :: behind) t = (a.offset + q, a.scale + q', false) ∧
      quotient a.offset b.offset q ∧ quotient a.scale b.scale q') ∧
  (∀ (a b : Breakpoint) (table : List Breakpoint) (t : Int),
    (a :: b :: table).Pairwise (fun p q => p.temperature < q.temperature) →
    (t < a.temperature → lookUp (a :: b :: table) t = (a.offset, a.scale, true)) ∧
    ∀ z, (b :: table).getLast? = some z → z.temperature ≤ t →
      lookUp (a :: b :: table) t = (z.offset, z.scale, decide (z.temperature < t))) ∧
  ∀ (a : Breakpoint) (t : Int), lookUp [a] t = (a.offset, a.scale, false) ∧ lookUp [] t = (0, 0, false)

/-! ## The Record Ring (08) -/

/-- A RECALL of this node starts a scan, at most 256 seconds long, NOT_HELD when its first second is earlier than the
oldest OWN record's, and its first reply is assembled at once, or, with a reply in an attempt, when that attempt ends,
whose outcome is reported to no scan; any other is ignored (R159, R160, R161). A reply copies, in ring order, exactly
the records in range that the walk passes: it stops at six, at 256 collected, or at the end record, whichever is first,
passing no record behind it, and is END but for six; a count of 0 is END alone (R161). That a reply whose sixth record
is the end record is END is the model's reading (log entry 24). -/
def Obligations.RecallIsAnswered : Prop :=
  (∀ (r : Reception) (s : State), Heard r s → kindOf r = 0x07#8 → senderOf r ≠ s.cfg.station →
    let p := payloadOf r
    (p.length ≠ 7 ∨ natAt 0 1 p ≠ s.cfg.station → exec .recallReceived s = .next (ended s)) ∧
    (p.length = 7 → natAt 0 1 p = s.cfg.station →
      let sc : Scan :=
        { first := natAt 1 4 p, count := min (natAt 5 2 p) 256, collected := 0, gap := false, endRetried := false
          reply := none, nextRecord := if s.ring.records = [] then none else some s.ring.base
          endRecord := if s.ring.records = [] then none else some (s.ring.base + (s.ring.records.length - 1))
          notHeld := match s.ring.records.find? Record.isOwn with
            | none => true
            | some o => decide
              (diff (natAt 1 4 p % 4294967296 * 1000000000) (o.seconds % 4294967296 * 1000000000) < 0) }
      ((∀ a o, s.line.attempt = some a → a.item ≠ .reply o) →
        exec .recallReceived s = .next { ended s with
          ring := { s.ring with scan := some (sc.assembled s.ring) }
          line := { (ended s).line with replyFailures := 0 } }) ∧
      ∀ a o, s.line.attempt = some a → a.item = .reply o →
        exec .recallReceived s = .next { ended s with
          ring := { s.ring with scan := some sc }
          line := { (ended s).line with attempt := some { a with item := .reply true } } })) ∧
  (∀ (g : RecordRing) (sc : Scan),
    (sc.count = 0 → (sc.assembled g).reply = some { final := true, notHeld := false, gap := false, records := [] }) ∧
    (sc.count ≠ 0 → sc.nextRecord = none → (sc.assembled g).nextRecord = none ∧ (sc.assembled g).reply =
      some { final := true, notHeld := sc.notHeld, gap := sc.gap, records := [] }) ∧
    ((sc.assembled g).notHeld = false ∧ (sc.assembled g).gap = false) ∧
    ∀ k, sc.count ≠ 0 → sc.nextRecord = some k →
      let w := walk sc.first sc.count sc.endRecord (g.records.drop (k - g.base)) k [] sc.collected
      (sc.assembled g).reply = some { final := w.final, notHeld := sc.notHeld, gap := sc.gap, records := w.records } ∧
      (sc.assembled g).nextRecord = w.nextRecord ∧ (sc.assembled g).collected = w.collected) ∧
  ∀ (first count k n : Nat) (last : Option Nat) (rs : List Record), n < 256 →
    let w := walk first count last rs k [] n
    let inRange (r : Record) : Bool :=
      (match r.body with | .peer _ _ => false | .own _ | .check _ _ _ | .note _ => true) &&
        decide ((r.seconds % 4294967296 + 4294967296 - first % 4294967296) % 4294967296 < count)
    ∃ m, m ≤ rs.length ∧ w.records = (rs.take m).filter inRange ∧
      w.records.length ≤ 6 ∧ w.collected = n + w.records.length ∧ w.collected ≤ 256 ∧
      -- the walk does not go on beyond a stop
      (∀ j, j + 1 < m → last ≠ some (k + j)) ∧
      (∀ j < m, ((rs.take j).filter inRange).length < 6 ∧ n + ((rs.take j).filter inRange).length < 256) ∧
      -- and ends at none but a stop
      (w.final = false → w.records.length = 6 ∧ w.nextRecord = some (k + m) ∧ w.collected < 256 ∧
        ∀ j < m, last ≠ some (k + j)) ∧
      (w.final = true → w.nextRecord = none ∧
        (m = rs.length ∨ w.collected = 256 ∨ (0 < m ∧ last = some (k + m - 1)))) ∧
      (∀ j, j + 1 = m → last = some (k + j) → w.final = true) ∧ (w.collected = 256 → w.final = true)

/-- A commit joins the newest end; in a full ring the oldest record leaves, RING_WRAP is set (R146, R147), and a scan
standing on the record that left goes on behind it with GAP, or ends its walk when that was the end record (R162). That
the scan names records by their place in the order of all commits, with the count base of those that have left, is the
model's choice (log entry 11). -/
def Obligations.CommitsAndOverwrites : Prop :=
  ∀ (r : Record) (s : State),
    (s.ring.records.length < 16384 → commit r s = { s with ring := { s.ring with records := s.ring.records ++ [r] } }) ∧
    ∀ oldest kept', s.ring.records = oldest :: kept' → 16384 ≤ s.ring.records.length →
      (commit r s).ring.records = kept' ++ [r] ∧ (commit r s).ring.base = s.ring.base + 1 ∧
      (commit r s).ring.bank0 = s.ring.bank0 ∧ (commit r s).ring.bank1 = s.ring.bank1 ∧
      flagIsSet .ringWrap (commit r s) = true ∧
      ∀ sc, s.ring.scan = some sc →
        (sc.nextRecord ≠ some s.ring.base → (commit r s).ring.scan = some sc) ∧
        (sc.nextRecord = some s.ring.base → (commit r s).ring.scan = some { sc with
          gap := true
          nextRecord := if sc.endRecord = some s.ring.base then none else some (s.ring.base + 1) })

/-! ## The Flag Unit (09) -/

/-- A CLEAR for this node clears the named flags of its group, reopens the group's gate, and, if an enabled flag of
the group is still set, closes it again with a pulse request and a STATE handed over; the other groups are not touched
(R172). Any other CLEAR is ignored (R171). An expiry of the STATE period that has come with that hand-over is kept
(R175; log entry 31). -/
def Obligations.ClearReopensTheGate : Prop :=
  ∀ (r : Reception) (s : State), Heard r s → kindOf r = 0x08#8 → senderOf r ≠ s.cfg.station →
    let p := payloadOf r
    (p.length ≠ 3 ∨ (natAt 0 1 p ≠ s.cfg.station ∧ natAt 0 1 p ≠ 255) ∨ 4 < natAt 1 1 p →
      exec .clearReceived s = .next (ended s)) ∧
    ∀ g : Group, p.length = 3 → natAt 0 1 p = s.cfg.station ∨ natAt 0 1 p = 255 →
      [Group.time, .line, .data, .window, .start][natAt 1 1 p]? = some g →
      let left := s.flag.flags.get g &&& ~~~(p.getD 2 0)
      (left &&& s.cfg.masks.get g = 0#8 →
        exec .clearReceived s = .next { ended s with
          flag := { s.flag with flags := s.flag.flags.set g left, closed := s.flag.closed.set g false } }) ∧
      (left &&& s.cfg.masks.get g ≠ 0#8 →
        exec .clearReceived s = .next { ended s with
          flag := { s.flag with
            flags := s.flag.flags.set g left, closed := s.flag.closed.set g true, release := some (s.tick + 100000)
            stateTimer := s.flag.stateTimer.map fun _ => s.tick + s.cfg.statePeriod * 10000000
            expiryWaits := s.flag.expiryWaits || s.flag.stateTimer.any fun n => decide (n ≤ s.tick) }
          line := { (ended s).line with
            stateSlot :=
              if s.line.attempting .state then { s.line.stateSlot with waiting := true }
              else { full := true, failures := 0, waiting := false } } })

/-- Setting a flag: an enabled flag at an OPEN gate closes it, requests a pulse of 100,000 ticks and hands over a
STATE; any other setting changes the flag alone. The alarm output returns high at its release, and the STATE period
hands over a STATE and begins anew; a closure that comes with the period's expiry leaves the expiry to hand over its
own STATE, so that the two hand over two in either order (R167, R169, R170, R175, R176). That the expiry is then kept
in expiryWaits is the model's choice (log entry 31). -/
def Obligations.GatesAlarmAndStatePeriod : Prop :=
  let slot (s : State) : Slot :=
    if s.line.attempting .state then { s.line.stateSlot with waiting := true }
    else { full := true, failures := 0, waiting := false }
  let expired (s : State) : Bool := s.flag.stateTimer.any fun n => decide (n ≤ s.tick)
  let full (s : State) : Option Nat := s.flag.stateTimer.map fun _ => s.tick + s.cfg.statePeriod * 10000000
  (∀ (f : Flag) (s : State),
    let g := f.group
    let flags := s.flag.flags.set g (s.flag.flags.get g ||| f.mask)
    if s.cfg.masks.get g &&& f.mask ≠ 0#8 ∧ s.flag.closed.get g = false then
      setFlag f s = { s with
        flag :=
          { flags := flags, closed := s.flag.closed.set g true, release := some (s.tick + 100000), stateTimer := full s
            expiryWaits := s.flag.expiryWaits || expired s }
        line := { s.line with stateSlot := slot s } }
    else setFlag f s = { s with flag := { s.flag with flags := flags } }) ∧
  (∀ (n : Nat) (s : State), s.flag.release = some n →
    (n ≤ s.tick → exec .alarmRelease s = .next { s with flag := { s.flag with release := none } }) ∧
    (s.tick < n → exec .alarmRelease s = .next s)) ∧
  ∀ s : State, s.running = true →
    (s.flag.expiryWaits = true ∨ expired s = true → exec .statePeriodExpiry s = .next { s with
      flag := { s.flag with stateTimer := full s, expiryWaits := false }, line := { s.line with stateSlot := slot s } }) ∧
    (s.flag.expiryWaits = false → expired s = false → exec .statePeriodExpiry s = .next s)

/-! ## The Start Loader (10) -/

/-- A power-on reset puts every block in its state after reset and empties the ring; an external reset, after 64 low
ticks, keeps the ring's records and the compensation steps. The supply's 65,536 ticks end the one, the high pin the
other; the last reset to end begins the start sequence: with the image strap the image is read, without it the stages
from the third on follow, and the straps and the defaults settle the node, which starts (R166, R180, R181, R182, R183,
R184, R185, R186); the defaults are those of the table, the own station alone in the COMP_STEP affect set (R190, R191).
The model's choices here: the cfg a held node shows (log entry 4), the last stage that a command takes with it (log
entry 7), and a power-on reset taken whenever it comes, the verdict shown as defaults and the straps kept (log entry
26). -/
def Obligations.ResetsAndReleases : Prop :=
  (∀ s : State, exec .powerOnReset s = .next { State.reset with
    pending := s.pending, tick := s.tick
    loader := { State.reset.loader with ext := s.loader.ext, pinHigh := s.loader.pinHigh } }) ∧
  (∀ s : State, s.loader.ext = false → 64 ≤ s.loader.lowCount →
    exec .externalReset s = .next { State.reset with
      pending := s.pending, tick := s.tick
      acq := { State.reset.acq with steps := s.acq.steps }
      ring := { s.ring with
        bank0 := { state := .free, records := [] }, bank1 := { state := .free, records := [] }, scan := none }
      loader := { s.loader with
        phase := .held, ext := true, verdict := .defaults, image := []
        pendingCause := if s.loader.begun then .external else s.loader.pendingCause } }) ∧
  (∀ p : Straps, p.wellFormed = true →
    let comp : CompSettings := { factor := 1000, startSteps := 0, probe := 0, table := [] }
    let probe : ProbeSettings := { origin := -5000, span := 12000 }
    settleDefaults p =
      { clamped := decide (p.role = 3)
        cfg :=
          { station := p.station, role := if p.role = 0 then .vector else if p.role = 1 then .scalar else .timing
            period := 8, receiveDelay := 300, initialTrim := 0, exclusion := 1000000, spreadLimit := 1000000
            listen := 0#16, partner := none, deltaLimit := 5000, minSamples := 5
            comps := { x := comp, y := comp, z := comp }, stepSize := 2000000, probes := [probe, probe, probe, probe]
            settle := 200, compAffect := 1#16 <<< p.station, polarizeAffect := 0#16, cycle := 10, polarize := 500
            count := 500, bankLength := 4, statePeriod := 60
            masks := { time := 0x3F#8, line := 0x1F#8, data := 0x7F#8, window := 0x0F#8, start := 0x0F#8 } } }) ∧
  ∀ (p : Straps) (s : State), p.wellFormed = true →
    let begun (l : Loader) : Loader := { l with begun := true, straps := p, image := [] }
    (s.loader.powerOn = true → 65536 ≤ s.loader.goodTicks →
      let over' : Loader := { s.loader with powerOn := false }
      (s.loader.ext = true → ∀ n, exec (.powerOnRelease ⟨p, n⟩) s = .next { s with loader := over' }) ∧
      (s.loader.ext = false → p.image = true → ∀ n, exec (.powerOnRelease ⟨p, n⟩) s = .next { s with
        loader := { begun over' with phase := .readingImage, readFrom := s.tick } }) ∧
      (s.loader.ext = false → p.image = false →
        (∀ n, exec (.powerOnRelease ⟨p, n⟩) s =
          .next (takeStage^[n - 2] { s with loader := { begun over' with phase := .starting .verdict } })) ∧
        ∃ t, exec (.powerOnRelease ⟨p, 8⟩) s = .next t ∧
          Started .defaults (settleDefaults p) { s with loader := begun over' } t)) ∧
    (s.loader.ext = true → s.loader.pinHigh = true →
      let over' : Loader := { s.loader with ext := false }
      (s.loader.powerOn = true → ∀ n, exec (.resetPinRelease ⟨p, n⟩) s = .next { s with loader := over' }) ∧
      (s.loader.powerOn = false → p.image = true → ∀ n, exec (.resetPinRelease ⟨p, n⟩) s = .next { s with
        loader := { begun over' with phase := .readingImage, readFrom := s.tick } }) ∧
      (s.loader.powerOn = false → p.image = false →
        (∀ n, exec (.resetPinRelease ⟨p, n⟩) s =
          .next (takeStage^[n - 2] { s with loader := { begun over' with phase := .starting .verdict } })) ∧
        ∃ t, exec (.resetPinRelease ⟨p, 8⟩) s = .next t ∧
          Started .defaults (settleDefaults p) { s with loader := begun over' } t))

/-- The image read ends with the image's bytes, taken most significant bit first at the rising edges of the port
clock, or with the header alone unless it is that of format 0x01, and the stages from the third to the one named
follow (R184, R186, R199); through the eighth an image of format 0x01, length 461 and right check starts the node with
its fields settled, any other with the straps and the defaults (R187, R191). Each of the six stages, taken alone: the
verdict, the settling, the load of every block with the start steps, the START flags with the last cause, the RESET
note, the start of the clock (R175, R187, R192, R193). Every field is settled from the bytes of its place, clamped
into its range, every table cut where it ceases to rise, the derived settings made, and a clamping or cut counted
(R188, R189, R190, R198). Levels the EEPROM does not give read as the pulled-up one (the model's reading, log entry
6), and the last stage that a command takes with it is the model's choice (log entry 7). -/
def Obligations.ImagesAreSettled : Prop :=
  (∀ (levels : List Bool) (s : State), s.loader.phase = .readingImage →
    let whole : List Byte := (List.range 466).map fun i => BitVec.ofNat 8 (byteTaken i levels)
    let header := whole.take 3
    let held := if placed 0 1 header = 1 ∧ placed 1 2 header = 461 then whole else header
    let good := placed 0 1 whole = 1 ∧ placed 1 2 whole = 461 ∧ (crc (whole.take 464)).toNat = placed 464 2 whole
    s.loader.readFrom + 40 * (3 + held.length) ≤ s.tick →
    (∀ n, exec (.imageRead ⟨levels, n⟩) s =
      .next (takeStage^[n - 2] { s with loader := { s.loader with image := held, phase := .starting .verdict } })) ∧
    (s.loader.straps.image = true → ∃ t, exec (.imageRead ⟨levels, 8⟩) s = .next t ∧
      (good → Started .valid (settleImage whole) s t) ∧
      (¬ good → Started .defaults (settleDefaults s.loader.straps) s t))) ∧
  (∀ s : State,
    let loaded (l : Loader) : State := { s with loader := l }
    (s.loader.phase = .starting .verdict →
      ∃ verdict, takeStage s = loaded { s.loader with phase := .starting .settle, verdict := verdict } ∧
        (verdict = .valid ↔ s.loader.straps.image = true ∧ placed 0 1 s.loader.image = 1 ∧
          placed 1 2 s.loader.image = 461 ∧ (crc (s.loader.image.take 464)).toNat = placed 464 2 s.loader.image)) ∧
    (s.loader.phase = .starting .settle →
      (s.loader.verdict = .valid → takeStage s = loaded { s.loader with
        image := [], phase := .starting (.load (settleImage s.loader.image)) }) ∧
      (s.loader.verdict = .defaults → takeStage s = loaded { s.loader with
        image := [], phase := .starting (.load (settleDefaults s.loader.straps)) })) ∧
    (∀ set, s.loader.phase = .starting (.load set) → takeStage s =
      { pending := s.pending, tick := s.tick, ring := s.ring, cfg := set.cfg
        loader := { s.loader with phase := .starting (.flags set.clamped) }
        clock :=
          { seconds := 0, nanoseconds := 0, remainder := 0, trim := set.cfg.initialTrim, slew := 0, state := .free }
        ref := RefInput.afterReset, agr := Agreement.afterReset set.cfg, line := LineUnit.afterReset set.cfg
        win := WindowUnit.afterReset, acq := Acquisition.afterReset set.cfg (set.cfg.comps.map (·.startSteps))
        corr := Correction.afterReset, flag := FlagUnit.afterReset }) ∧
    (∀ clamped, s.loader.phase = .starting (.flags clamped) →
      let cause : State := setFlag (match s.loader.pendingCause with | .powerOn => .powerOn | .external => .extReset) s
      let default' : State := if s.loader.verdict = .defaults then setFlag .configDefault cause else cause
      takeStage s = { (if clamped then setFlag .configClamped default' else default') with
        loader := { s.loader with phase := .starting .note, lastCause := s.loader.pendingCause } }) ∧
    (s.loader.phase = .starting .note → s.ring.records.length < 16384 → takeStage s = { s with
      loader := { s.loader with phase := .starting .clock }
      ring := { s.ring with records := s.ring.records ++ [noteOf (.reset s.loader.pendingCause) s] } }) ∧
    (s.loader.phase = .starting .clock → takeStage s = { s with
      loader := { s.loader with phase := .running }
      flag := { s.flag with stateTimer := some (s.tick + s.cfg.statePeriod * 10000000) } })) ∧
  (∀ img : List Byte, img.length = 466 →
    FieldsSettled img (settleImage img).cfg ∧ InRange (settleImage img).cfg ∧
    ((settleImage img).clamped = false ↔ NothingClamped img (settleImage img).cfg)) ∧
  ∀ p : Straps, p.wellFormed = true → InRange (settleDefaults p).cfg

/-! ## Encodings (11) -/

/-- What a node writes, a node reads: an OWN record's 32 bytes give its PEER record, field by field; a frame's
characters are complete with the last and not before, pass the check, and give back kind, source and payload; a window
id keeps both its parts; and the manual's check of nine characters holds (R58, R59, R78, R149, R153, R194, R195,
R196). Every byte of a CHECK and of a NOTE record, and the first ten of an OWN record, are those of the table of R196,
and the marker byte of a BLOCK has its four bits (R195). -/
def Obligations.RecordsAndFramesRoundTrip : Prop :=
  (∀ (r : Record) (v : Values), r.body = .own v → r.station < 16 → r.seconds < 4294967296 → r.millis ≤ 999 →
    (∀ c : Comp, v.valid.get c ≤ 10 ∧ ∀ x, v.value.get c = some x → x.natAbs ≤ 400000000 ∧ v.valid.get c ≠ 0) →
    (∀ x, v.temperature = some x → -5000 ≤ x ∧ x ≤ 7000) →
    r.bytes.length = 32 ∧
    ∃ received, peerRecord r.station r.role r.bytes = some { r with body := .peer v received } ∧
      received.length = 32 ∧ received.tail = r.bytes.tail ∧
      ∃ k, received.head? = some k ∧ k.toNat = 1 + 16 * r.timebase.code) ∧
  (∀ (station : Nat) (role : Role) (kind : Byte) (payload : List Byte), station < 16 → payload.length ≤ 200 →
    let chars := sentChars station role kind payload.length payload
    chars.length = payload.length + 6 ∧ frameComplete chars = true ∧ checkPasses chars = true ∧
    (∀ n, n < chars.length → frameComplete (chars.take n) = false) ∧
    frameOf chars = { kind := kind, station := station, role := role, payload := payload }) ∧
  (∀ r : Record, (∀ v received, r.body ≠ .peer v received) → r.station < 16 → r.seconds < 4294967296 → r.millis ≤ 999 →
    let b := r.bytes
    let bit (x : Bool) (n : Nat) : Nat := if x then n else 0
    let zero (k : Nat) : Prop := ∀ i, k ≤ i → i < 32 → b[i]? = some 0#8
    b.length = 32 ∧
    placed 0 1 b = (match r.body with | .own _ => 0 | .peer _ _ => 1 | .check _ _ _ => 2 | .note _ => 3) +
      (match r.timebase with | .free => 0 | .referenced => 16 | .agreed => 32 | .holdover => 48) ∧
    placed 1 1 b = r.station + (match r.role with | .vector => 0 | .scalar => 16 | .timing => 32 | .logger => 48) ∧
    placed 2 4 b = r.seconds ∧ placed 6 2 b = r.millis ∧
    placed 8 2 b = bit r.flags.stepped 1 + bit r.flags.blanked 2 + bit r.flags.partly 4 + bit r.flags.saturated 8 +
      bit r.flags.tableEdge 16 + bit r.flags.tempHeld 32 + bit r.flags.tempStale 64 + bit r.flags.noTemp 128 +
      bit r.flags.disturbed 256 + bit r.flags.skipped 512 + bit r.flags.missing 1024 ∧
    (∀ f g d : Int, r.body = .check f g d → f.natAbs ≤ 400000000 → g.natAbs ≤ 400000000 → d.natAbs ≤ 400000000 →
      placedSigned 10 4 b = f ∧ placedSigned 14 4 b = g ∧ placedSigned 18 4 b = d ∧ zero 22) ∧
    ∀ n : Note, r.body = .note n →
      let argument : Int := (match n with
        | .reset .powerOn => 0 | .reset .external => 1 | .step c => c | .comp _ steps => steps
        | .timebase .free => 0 | .timebase .referenced => 1 | .timebase .agreed => 2 | .timebase .holdover => 3)
      argument ≤ 9223372036854775807 → -9223372036854775808 ≤ argument →
      placed 10 1 b = (match n with | .reset _ => 0 | .step _ => 1 | .timebase _ => 2 | .comp _ _ => 3) ∧
      placed 11 1 b = (match n with | .comp .x _ => 0 | .comp .y _ => 1 | .comp .z _ => 2 | _ => 0) ∧
      placedSigned 12 8 b = argument ∧ zero 20) ∧
  (∀ recalled final notHeld gap : Bool, ∀ i < 8, (blockMarkers recalled final notHeld gap).getLsbD i =
    (if i = 0 then recalled else if i = 1 then final else if i = 2 then notHeld else if i = 3 then gap else false)) ∧
  (∀ i : WinId, i.station < 16 → i.seq < 16 → WinId.ofByte i.toByte = i) ∧
  crc [0x31#8, 0x32#8, 0x33#8, 0x34#8, 0x35#8, 0x36#8, 0x37#8, 0x38#8, 0x39#8] = 0x6F91#16
end

