-- ==== Sys2Proof/Laws/State.lean ====
section
/-! SUPPORT. One lemma per field per update of State, true by rfl, so that no proof unfolds a record update. -/

namespace Sys2Proof.Machine

@[simp] theorem State.withPending_pending (s : State) (v : List Instr) : (s.withPending v).pending = v := rfl
@[simp] theorem State.withPending_tick (s : State) (v : List Instr) : (s.withPending v).tick = s.tick := rfl
@[simp] theorem State.withPending_clock (s : State) (v : List Instr) : (s.withPending v).clock = s.clock := rfl
@[simp] theorem State.withPending_ref (s : State) (v : List Instr) : (s.withPending v).ref = s.ref := rfl
@[simp] theorem State.withPending_agr (s : State) (v : List Instr) : (s.withPending v).agr = s.agr := rfl
@[simp] theorem State.withPending_line (s : State) (v : List Instr) : (s.withPending v).line = s.line := rfl
@[simp] theorem State.withPending_win (s : State) (v : List Instr) : (s.withPending v).win = s.win := rfl
@[simp] theorem State.withPending_acq (s : State) (v : List Instr) : (s.withPending v).acq = s.acq := rfl
@[simp] theorem State.withPending_corr (s : State) (v : List Instr) : (s.withPending v).corr = s.corr := rfl
@[simp] theorem State.withPending_ring (s : State) (v : List Instr) : (s.withPending v).ring = s.ring := rfl
@[simp] theorem State.withPending_flag (s : State) (v : List Instr) : (s.withPending v).flag = s.flag := rfl
@[simp] theorem State.withPending_loader (s : State) (v : List Instr) : (s.withPending v).loader = s.loader := rfl
@[simp] theorem State.withPending_cfg (s : State) (v : List Instr) : (s.withPending v).cfg = s.cfg := rfl

@[simp] theorem State.withTick_pending (s : State) (v : Nat) : (s.withTick v).pending = s.pending := rfl
@[simp] theorem State.withTick_tick (s : State) (v : Nat) : (s.withTick v).tick = v := rfl
@[simp] theorem State.withTick_clock (s : State) (v : Nat) : (s.withTick v).clock = s.clock := rfl
@[simp] theorem State.withTick_ref (s : State) (v : Nat) : (s.withTick v).ref = s.ref := rfl
@[simp] theorem State.withTick_agr (s : State) (v : Nat) : (s.withTick v).agr = s.agr := rfl
@[simp] theorem State.withTick_line (s : State) (v : Nat) : (s.withTick v).line = s.line := rfl
@[simp] theorem State.withTick_win (s : State) (v : Nat) : (s.withTick v).win = s.win := rfl
@[simp] theorem State.withTick_acq (s : State) (v : Nat) : (s.withTick v).acq = s.acq := rfl
@[simp] theorem State.withTick_corr (s : State) (v : Nat) : (s.withTick v).corr = s.corr := rfl
@[simp] theorem State.withTick_ring (s : State) (v : Nat) : (s.withTick v).ring = s.ring := rfl
@[simp] theorem State.withTick_flag (s : State) (v : Nat) : (s.withTick v).flag = s.flag := rfl
@[simp] theorem State.withTick_loader (s : State) (v : Nat) : (s.withTick v).loader = s.loader := rfl
@[simp] theorem State.withTick_cfg (s : State) (v : Nat) : (s.withTick v).cfg = s.cfg := rfl

@[simp] theorem State.withClock_pending (s : State) (v : Clock) : (s.withClock v).pending = s.pending := rfl
@[simp] theorem State.withClock_tick (s : State) (v : Clock) : (s.withClock v).tick = s.tick := rfl
@[simp] theorem State.withClock_clock (s : State) (v : Clock) : (s.withClock v).clock = v := rfl
@[simp] theorem State.withClock_ref (s : State) (v : Clock) : (s.withClock v).ref = s.ref := rfl
@[simp] theorem State.withClock_agr (s : State) (v : Clock) : (s.withClock v).agr = s.agr := rfl
@[simp] theorem State.withClock_line (s : State) (v : Clock) : (s.withClock v).line = s.line := rfl
@[simp] theorem State.withClock_win (s : State) (v : Clock) : (s.withClock v).win = s.win := rfl
@[simp] theorem State.withClock_acq (s : State) (v : Clock) : (s.withClock v).acq = s.acq := rfl
@[simp] theorem State.withClock_corr (s : State) (v : Clock) : (s.withClock v).corr = s.corr := rfl
@[simp] theorem State.withClock_ring (s : State) (v : Clock) : (s.withClock v).ring = s.ring := rfl
@[simp] theorem State.withClock_flag (s : State) (v : Clock) : (s.withClock v).flag = s.flag := rfl
@[simp] theorem State.withClock_loader (s : State) (v : Clock) : (s.withClock v).loader = s.loader := rfl
@[simp] theorem State.withClock_cfg (s : State) (v : Clock) : (s.withClock v).cfg = s.cfg := rfl

@[simp] theorem State.withRef_pending (s : State) (v : RefInput) : (s.withRef v).pending = s.pending := rfl
@[simp] theorem State.withRef_tick (s : State) (v : RefInput) : (s.withRef v).tick = s.tick := rfl
@[simp] theorem State.withRef_clock (s : State) (v : RefInput) : (s.withRef v).clock = s.clock := rfl
@[simp] theorem State.withRef_ref (s : State) (v : RefInput) : (s.withRef v).ref = v := rfl
@[simp] theorem State.withRef_agr (s : State) (v : RefInput) : (s.withRef v).agr = s.agr := rfl
@[simp] theorem State.withRef_line (s : State) (v : RefInput) : (s.withRef v).line = s.line := rfl
@[simp] theorem State.withRef_win (s : State) (v : RefInput) : (s.withRef v).win = s.win := rfl
@[simp] theorem State.withRef_acq (s : State) (v : RefInput) : (s.withRef v).acq = s.acq := rfl
@[simp] theorem State.withRef_corr (s : State) (v : RefInput) : (s.withRef v).corr = s.corr := rfl
@[simp] theorem State.withRef_ring (s : State) (v : RefInput) : (s.withRef v).ring = s.ring := rfl
@[simp] theorem State.withRef_flag (s : State) (v : RefInput) : (s.withRef v).flag = s.flag := rfl
@[simp] theorem State.withRef_loader (s : State) (v : RefInput) : (s.withRef v).loader = s.loader := rfl
@[simp] theorem State.withRef_cfg (s : State) (v : RefInput) : (s.withRef v).cfg = s.cfg := rfl

@[simp] theorem State.withAgr_pending (s : State) (v : Agreement) : (s.withAgr v).pending = s.pending := rfl
@[simp] theorem State.withAgr_tick (s : State) (v : Agreement) : (s.withAgr v).tick = s.tick := rfl
@[simp] theorem State.withAgr_clock (s : State) (v : Agreement) : (s.withAgr v).clock = s.clock := rfl
@[simp] theorem State.withAgr_ref (s : State) (v : Agreement) : (s.withAgr v).ref = s.ref := rfl
@[simp] theorem State.withAgr_agr (s : State) (v : Agreement) : (s.withAgr v).agr = v := rfl
@[simp] theorem State.withAgr_line (s : State) (v : Agreement) : (s.withAgr v).line = s.line := rfl
@[simp] theorem State.withAgr_win (s : State) (v : Agreement) : (s.withAgr v).win = s.win := rfl
@[simp] theorem State.withAgr_acq (s : State) (v : Agreement) : (s.withAgr v).acq = s.acq := rfl
@[simp] theorem State.withAgr_corr (s : State) (v : Agreement) : (s.withAgr v).corr = s.corr := rfl
@[simp] theorem State.withAgr_ring (s : State) (v : Agreement) : (s.withAgr v).ring = s.ring := rfl
@[simp] theorem State.withAgr_flag (s : State) (v : Agreement) : (s.withAgr v).flag = s.flag := rfl
@[simp] theorem State.withAgr_loader (s : State) (v : Agreement) : (s.withAgr v).loader = s.loader := rfl
@[simp] theorem State.withAgr_cfg (s : State) (v : Agreement) : (s.withAgr v).cfg = s.cfg := rfl

@[simp] theorem State.withLine_pending (s : State) (v : LineUnit) : (s.withLine v).pending = s.pending := rfl
@[simp] theorem State.withLine_tick (s : State) (v : LineUnit) : (s.withLine v).tick = s.tick := rfl
@[simp] theorem State.withLine_clock (s : State) (v : LineUnit) : (s.withLine v).clock = s.clock := rfl
@[simp] theorem State.withLine_ref (s : State) (v : LineUnit) : (s.withLine v).ref = s.ref := rfl
@[simp] theorem State.withLine_agr (s : State) (v : LineUnit) : (s.withLine v).agr = s.agr := rfl
@[simp] theorem State.withLine_line (s : State) (v : LineUnit) : (s.withLine v).line = v := rfl
@[simp] theorem State.withLine_win (s : State) (v : LineUnit) : (s.withLine v).win = s.win := rfl
@[simp] theorem State.withLine_acq (s : State) (v : LineUnit) : (s.withLine v).acq = s.acq := rfl
@[simp] theorem State.withLine_corr (s : State) (v : LineUnit) : (s.withLine v).corr = s.corr := rfl
@[simp] theorem State.withLine_ring (s : State) (v : LineUnit) : (s.withLine v).ring = s.ring := rfl
@[simp] theorem State.withLine_flag (s : State) (v : LineUnit) : (s.withLine v).flag = s.flag := rfl
@[simp] theorem State.withLine_loader (s : State) (v : LineUnit) : (s.withLine v).loader = s.loader := rfl
@[simp] theorem State.withLine_cfg (s : State) (v : LineUnit) : (s.withLine v).cfg = s.cfg := rfl

@[simp] theorem State.withWin_pending (s : State) (v : WindowUnit) : (s.withWin v).pending = s.pending := rfl
@[simp] theorem State.withWin_tick (s : State) (v : WindowUnit) : (s.withWin v).tick = s.tick := rfl
@[simp] theorem State.withWin_clock (s : State) (v : WindowUnit) : (s.withWin v).clock = s.clock := rfl
@[simp] theorem State.withWin_ref (s : State) (v : WindowUnit) : (s.withWin v).ref = s.ref := rfl
@[simp] theorem State.withWin_agr (s : State) (v : WindowUnit) : (s.withWin v).agr = s.agr := rfl
@[simp] theorem State.withWin_line (s : State) (v : WindowUnit) : (s.withWin v).line = s.line := rfl
@[simp] theorem State.withWin_win (s : State) (v : WindowUnit) : (s.withWin v).win = v := rfl
@[simp] theorem State.withWin_acq (s : State) (v : WindowUnit) : (s.withWin v).acq = s.acq := rfl
@[simp] theorem State.withWin_corr (s : State) (v : WindowUnit) : (s.withWin v).corr = s.corr := rfl
@[simp] theorem State.withWin_ring (s : State) (v : WindowUnit) : (s.withWin v).ring = s.ring := rfl
@[simp] theorem State.withWin_flag (s : State) (v : WindowUnit) : (s.withWin v).flag = s.flag := rfl
@[simp] theorem State.withWin_loader (s : State) (v : WindowUnit) : (s.withWin v).loader = s.loader := rfl
@[simp] theorem State.withWin_cfg (s : State) (v : WindowUnit) : (s.withWin v).cfg = s.cfg := rfl

@[simp] theorem State.withAcq_pending (s : State) (v : Acquisition) : (s.withAcq v).pending = s.pending := rfl
@[simp] theorem State.withAcq_tick (s : State) (v : Acquisition) : (s.withAcq v).tick = s.tick := rfl
@[simp] theorem State.withAcq_clock (s : State) (v : Acquisition) : (s.withAcq v).clock = s.clock := rfl
@[simp] theorem State.withAcq_ref (s : State) (v : Acquisition) : (s.withAcq v).ref = s.ref := rfl
@[simp] theorem State.withAcq_agr (s : State) (v : Acquisition) : (s.withAcq v).agr = s.agr := rfl
@[simp] theorem State.withAcq_line (s : State) (v : Acquisition) : (s.withAcq v).line = s.line := rfl
@[simp] theorem State.withAcq_win (s : State) (v : Acquisition) : (s.withAcq v).win = s.win := rfl
@[simp] theorem State.withAcq_acq (s : State) (v : Acquisition) : (s.withAcq v).acq = v := rfl
@[simp] theorem State.withAcq_corr (s : State) (v : Acquisition) : (s.withAcq v).corr = s.corr := rfl
@[simp] theorem State.withAcq_ring (s : State) (v : Acquisition) : (s.withAcq v).ring = s.ring := rfl
@[simp] theorem State.withAcq_flag (s : State) (v : Acquisition) : (s.withAcq v).flag = s.flag := rfl
@[simp] theorem State.withAcq_loader (s : State) (v : Acquisition) : (s.withAcq v).loader = s.loader := rfl
@[simp] theorem State.withAcq_cfg (s : State) (v : Acquisition) : (s.withAcq v).cfg = s.cfg := rfl

@[simp] theorem State.withCorr_pending (s : State) (v : Correction) : (s.withCorr v).pending = s.pending := rfl
@[simp] theorem State.withCorr_tick (s : State) (v : Correction) : (s.withCorr v).tick = s.tick := rfl
@[simp] theorem State.withCorr_clock (s : State) (v : Correction) : (s.withCorr v).clock = s.clock := rfl
@[simp] theorem State.withCorr_ref (s : State) (v : Correction) : (s.withCorr v).ref = s.ref := rfl
@[simp] theorem State.withCorr_agr (s : State) (v : Correction) : (s.withCorr v).agr = s.agr := rfl
@[simp] theorem State.withCorr_line (s : State) (v : Correction) : (s.withCorr v).line = s.line := rfl
@[simp] theorem State.withCorr_win (s : State) (v : Correction) : (s.withCorr v).win = s.win := rfl
@[simp] theorem State.withCorr_acq (s : State) (v : Correction) : (s.withCorr v).acq = s.acq := rfl
@[simp] theorem State.withCorr_corr (s : State) (v : Correction) : (s.withCorr v).corr = v := rfl
@[simp] theorem State.withCorr_ring (s : State) (v : Correction) : (s.withCorr v).ring = s.ring := rfl
@[simp] theorem State.withCorr_flag (s : State) (v : Correction) : (s.withCorr v).flag = s.flag := rfl
@[simp] theorem State.withCorr_loader (s : State) (v : Correction) : (s.withCorr v).loader = s.loader := rfl
@[simp] theorem State.withCorr_cfg (s : State) (v : Correction) : (s.withCorr v).cfg = s.cfg := rfl

@[simp] theorem State.withRing_pending (s : State) (v : RecordRing) : (s.withRing v).pending = s.pending := rfl
@[simp] theorem State.withRing_tick (s : State) (v : RecordRing) : (s.withRing v).tick = s.tick := rfl
@[simp] theorem State.withRing_clock (s : State) (v : RecordRing) : (s.withRing v).clock = s.clock := rfl
@[simp] theorem State.withRing_ref (s : State) (v : RecordRing) : (s.withRing v).ref = s.ref := rfl
@[simp] theorem State.withRing_agr (s : State) (v : RecordRing) : (s.withRing v).agr = s.agr := rfl
@[simp] theorem State.withRing_line (s : State) (v : RecordRing) : (s.withRing v).line = s.line := rfl
@[simp] theorem State.withRing_win (s : State) (v : RecordRing) : (s.withRing v).win = s.win := rfl
@[simp] theorem State.withRing_acq (s : State) (v : RecordRing) : (s.withRing v).acq = s.acq := rfl
@[simp] theorem State.withRing_corr (s : State) (v : RecordRing) : (s.withRing v).corr = s.corr := rfl
@[simp] theorem State.withRing_ring (s : State) (v : RecordRing) : (s.withRing v).ring = v := rfl
@[simp] theorem State.withRing_flag (s : State) (v : RecordRing) : (s.withRing v).flag = s.flag := rfl
@[simp] theorem State.withRing_loader (s : State) (v : RecordRing) : (s.withRing v).loader = s.loader := rfl
@[simp] theorem State.withRing_cfg (s : State) (v : RecordRing) : (s.withRing v).cfg = s.cfg := rfl

@[simp] theorem State.withFlag_pending (s : State) (v : FlagUnit) : (s.withFlag v).pending = s.pending := rfl
@[simp] theorem State.withFlag_tick (s : State) (v : FlagUnit) : (s.withFlag v).tick = s.tick := rfl
@[simp] theorem State.withFlag_clock (s : State) (v : FlagUnit) : (s.withFlag v).clock = s.clock := rfl
@[simp] theorem State.withFlag_ref (s : State) (v : FlagUnit) : (s.withFlag v).ref = s.ref := rfl
@[simp] theorem State.withFlag_agr (s : State) (v : FlagUnit) : (s.withFlag v).agr = s.agr := rfl
@[simp] theorem State.withFlag_line (s : State) (v : FlagUnit) : (s.withFlag v).line = s.line := rfl
@[simp] theorem State.withFlag_win (s : State) (v : FlagUnit) : (s.withFlag v).win = s.win := rfl
@[simp] theorem State.withFlag_acq (s : State) (v : FlagUnit) : (s.withFlag v).acq = s.acq := rfl
@[simp] theorem State.withFlag_corr (s : State) (v : FlagUnit) : (s.withFlag v).corr = s.corr := rfl
@[simp] theorem State.withFlag_ring (s : State) (v : FlagUnit) : (s.withFlag v).ring = s.ring := rfl
@[simp] theorem State.withFlag_flag (s : State) (v : FlagUnit) : (s.withFlag v).flag = v := rfl
@[simp] theorem State.withFlag_loader (s : State) (v : FlagUnit) : (s.withFlag v).loader = s.loader := rfl
@[simp] theorem State.withFlag_cfg (s : State) (v : FlagUnit) : (s.withFlag v).cfg = s.cfg := rfl

@[simp] theorem State.withLoader_pending (s : State) (v : Loader) : (s.withLoader v).pending = s.pending := rfl
@[simp] theorem State.withLoader_tick (s : State) (v : Loader) : (s.withLoader v).tick = s.tick := rfl
@[simp] theorem State.withLoader_clock (s : State) (v : Loader) : (s.withLoader v).clock = s.clock := rfl
@[simp] theorem State.withLoader_ref (s : State) (v : Loader) : (s.withLoader v).ref = s.ref := rfl
@[simp] theorem State.withLoader_agr (s : State) (v : Loader) : (s.withLoader v).agr = s.agr := rfl
@[simp] theorem State.withLoader_line (s : State) (v : Loader) : (s.withLoader v).line = s.line := rfl
@[simp] theorem State.withLoader_win (s : State) (v : Loader) : (s.withLoader v).win = s.win := rfl
@[simp] theorem State.withLoader_acq (s : State) (v : Loader) : (s.withLoader v).acq = s.acq := rfl
@[simp] theorem State.withLoader_corr (s : State) (v : Loader) : (s.withLoader v).corr = s.corr := rfl
@[simp] theorem State.withLoader_ring (s : State) (v : Loader) : (s.withLoader v).ring = s.ring := rfl
@[simp] theorem State.withLoader_flag (s : State) (v : Loader) : (s.withLoader v).flag = s.flag := rfl
@[simp] theorem State.withLoader_loader (s : State) (v : Loader) : (s.withLoader v).loader = v := rfl
@[simp] theorem State.withLoader_cfg (s : State) (v : Loader) : (s.withLoader v).cfg = s.cfg := rfl

@[simp] theorem State.withCfg_pending (s : State) (v : Settings) : (s.withCfg v).pending = s.pending := rfl
@[simp] theorem State.withCfg_tick (s : State) (v : Settings) : (s.withCfg v).tick = s.tick := rfl
@[simp] theorem State.withCfg_clock (s : State) (v : Settings) : (s.withCfg v).clock = s.clock := rfl
@[simp] theorem State.withCfg_ref (s : State) (v : Settings) : (s.withCfg v).ref = s.ref := rfl
@[simp] theorem State.withCfg_agr (s : State) (v : Settings) : (s.withCfg v).agr = s.agr := rfl
@[simp] theorem State.withCfg_line (s : State) (v : Settings) : (s.withCfg v).line = s.line := rfl
@[simp] theorem State.withCfg_win (s : State) (v : Settings) : (s.withCfg v).win = s.win := rfl
@[simp] theorem State.withCfg_acq (s : State) (v : Settings) : (s.withCfg v).acq = s.acq := rfl
@[simp] theorem State.withCfg_corr (s : State) (v : Settings) : (s.withCfg v).corr = s.corr := rfl
@[simp] theorem State.withCfg_ring (s : State) (v : Settings) : (s.withCfg v).ring = s.ring := rfl
@[simp] theorem State.withCfg_flag (s : State) (v : Settings) : (s.withCfg v).flag = s.flag := rfl
@[simp] theorem State.withCfg_loader (s : State) (v : Settings) : (s.withCfg v).loader = s.loader := rfl
@[simp] theorem State.withCfg_cfg (s : State) (v : Settings) : (s.withCfg v).cfg = v := rfl

end Sys2Proof.Machine
end

