-- ==== Sys2Proof/Laws/Env.lean ====
section
/-! SUPPORT. What every shared operation leaves alone, once per operation: the queue of commands, the tick, the settings,
the Start Loader and, but for requests, the clock. -/

namespace Sys2Proof.Machine

/-- What only a tick, a request or a restart changes. -/
structure Env where
  pending : List Instr
  tick : Nat
  cfg : Settings
  loader : Loader
  clock : Clock

/-- The environment of a state. -/
def State.env (s : State) : Env :=
  { pending := s.pending, tick := s.tick, cfg := s.cfg, loader := s.loader, clock := s.clock }

theorem State.env_eq {s t : State} (h : s.env = t.env) :
    s.pending = t.pending ∧ s.tick = t.tick ∧ s.cfg = t.cfg ∧ s.loader = t.loader ∧ s.clock = t.clock := by
  simpa [State.env] using h

@[simp] theorem withRef_env (s : State) (v : RefInput) : (s.withRef v).env = s.env := (rfl)
@[simp] theorem withAgr_env (s : State) (v : Agreement) : (s.withAgr v).env = s.env := (rfl)
@[simp] theorem withLine_env (s : State) (v : LineUnit) : (s.withLine v).env = s.env := (rfl)
@[simp] theorem withWin_env (s : State) (v : WindowUnit) : (s.withWin v).env = s.env := (rfl)
@[simp] theorem withAcq_env (s : State) (v : Acquisition) : (s.withAcq v).env = s.env := (rfl)
@[simp] theorem withCorr_env (s : State) (v : Correction) : (s.withCorr v).env = s.env := (rfl)
@[simp] theorem withRing_env (s : State) (v : RecordRing) : (s.withRing v).env = s.env := (rfl)
@[simp] theorem withFlag_env (s : State) (v : FlagUnit) : (s.withFlag v).env = s.env := (rfl)

/-! ## Flags (Flags.lean) -/

@[simp] theorem handState_env (s : State) : (handState s).env = s.env := by simp [handState]
@[simp] theorem requestPulse_env (s : State) : (requestPulse s).env = s.env := by simp [requestPulse]
@[simp] theorem closeGate_env (g : Group) (s : State) : (closeGate g s).env = s.env := by simp [closeGate]
@[simp] theorem setFlag_env (f : Flag) (s : State) : (setFlag f s).env = s.env := by
  unfold setFlag; dsimp only; split <;> simp
@[simp] theorem setFlagIf_env (b : Bool) (f : Flag) (s : State) : (setFlagIf b f s).env = s.env := by
  unfold setFlagIf; split <;> simp

/-! ## The Record Ring (RecordRing.lean) -/

@[simp] theorem commit_env (r : Record) (s : State) : (commit r s).env = s.env := by simp [commit]
@[simp] theorem commitNote_env (n : Note) (s : State) : (commitNote n s).env = s.env := by simp [commitNote]
@[simp] theorem closeBank_env (i : Bool) (s : State) : (closeBank i s).env = s.env := by
  unfold closeBank; dsimp only; split <;> simp
@[simp] theorem fillBank_env (r : Record) (s : State) : (fillBank r s).env = s.env := by
  unfold fillBank; split
  · rfl
  · dsimp only; split
    · split <;> simp
    · simp
@[simp] theorem commitOwn_env (r : Record) (s : State) : (commitOwn r s).env = s.env := by simp [commitOwn]
@[simp] theorem bankReport_env (i : Bool) (rep : Report) (s : State) : (bankReport i rep s).env = s.env := by
  unfold bankReport; dsimp only; split <;> split <;> simp
@[simp] theorem assembleReply_env (s : State) : (assembleReply s).env = s.env := by
  unfold assembleReply; split
  · rfl
  · split <;> simp
@[simp] theorem recallReport_env (rep : Report) (s : State) : (recallReport rep s).env = s.env := by
  unfold recallReport
  split
  · rfl
  · split
    · rfl
    · split
      · rfl
      · split <;> simp
      · split
        · split <;> simp
        · simp

/-! ## Requests (Ops.lean) -/

/-- The environment but the clock. -/
def State.base (s : State) : List Instr × Nat × Settings × Loader := (s.pending, s.tick, s.cfg, s.loader)

theorem base_of_env {s t : State} (h : s.env = t.env) : s.base = t.base := by
  obtain ⟨h1, h2, h3, h4, -⟩ := State.env_eq h; simp [State.base, h1, h2, h3, h4]

@[simp] theorem stepReactions_env (c : Int) (s : State) : (stepReactions c s).env = s.env := (rfl)
@[simp] theorem stepEvent_env (c : Int) (s : State) : (stepEvent c s).env = s.env := by simp [stepEvent]
@[simp] theorem stateChanged_env (t : Timebase) (s : State) : (stateChanged t s).env = s.env := by simp [stateChanged]

/-- A request not taken changes nothing (R5). -/
theorem takeRequest_ignored {q : Request} {s : State} (h : q.takenIn s.clock.state = false) : takeRequest q s = s := by
  simp [takeRequest, h]

/-- The clock a request taken leaves (R5 to R11). -/
theorem takeRequest_clock {q : Request} {s : State} (h : q.takenIn s.clock.state = true) :
    (takeRequest q s).clock = q.clockAfter s.cfg.period s.clock := by
  have key : (takeRequest q s).env = (s.withClock (q.clockAfter s.cfg.period s.clock)).env := by
    unfold takeRequest; rw [if_pos h]; dsimp only
    split <;> split <;> simp
  exact (State.env_eq key).2.2.2.2

/-- A request changes no command, tick, setting or loader. -/
theorem takeRequest_base (q : Request) (s : State) : (takeRequest q s).base = s.base := by
  by_cases h : q.takenIn s.clock.state = true
  · have key : (takeRequest q s).env = (s.withClock (q.clockAfter s.cfg.period s.clock)).env := by
      unfold takeRequest; rw [if_pos h]; dsimp only
      split <;> split <;> simp
    rw [base_of_env key]; rfl
  · rw [takeRequest_ignored (by simpa using h)]

/-! ## The Correction Unit (Correction.lean) -/

@[simp] theorem handRecord_env (r : Record) (s : State) : (handRecord r s).env = s.env := by simp [handRecord]
@[simp] theorem bufferRecord_env (r : Record) (v : Values) (s : State) : (bufferRecord r v s).env = s.env := by
  unfold bufferRecord; split
  · split <;> simp
  · rfl
@[simp] theorem closeSecond_env (n : Nat) (t : NodeTime) (a : Triple Accum) (x y : Bool) (s : State) :
    (closeSecond n t a x y s).env = s.env := by simp [closeSecond]
@[simp] theorem closeScalar_env (t : NodeTime) (v : ScalarValue) (x y : Bool) (s : State) :
    (closeScalar t v x y s).env = s.env := by simp [closeScalar]
@[simp] theorem handReading_env (t : NodeTime) (v : ScalarValue) (d : Bool) (s : State) :
    (handReading t v d s).env = s.env := by unfold handReading; split <;> simp
@[simp] theorem checkPeer_env (r : Record) (s : State) : (checkPeer r s).env = s.env := by
  unfold checkPeer; split
  · rfl
  · split <;> simp
@[simp] theorem commitPeer_env (k : Nat) (role : Role) (bs : List Byte) (s : State) :
    (commitPeer k role bs s).env = s.env := by unfold commitPeer; split <;> simp

/-! ## What the Acquisition Unit does at a window (Sensor.lean) -/

@[simp] theorem changeComponent_env (c : Comp) (s : State) : (changeComponent c s).env = s.env := by
  unfold changeComponent; split <;> simp
@[simp] theorem changeIf_env (set : Triple Bool) (c : Comp) (s : State) : (changeIf set c s).env = s.env := by
  unfold changeIf; split <;> simp
@[simp] theorem compensationChange_env (set : Triple Bool) (s : State) : (compensationChange set s).env = s.env := by
  simp [compensationChange]
@[simp] theorem cutOffCounting_env (s : State) : (cutOffCounting s).env = s.env := by
  unfold cutOffCounting; split <;> simp
@[simp] theorem polarizeOn_env (t : NodeTime) (s : State) : (polarizeOn t s).env = s.env := by simp [polarizeOn]
@[simp] theorem openGate_env (t : NodeTime) (s : State) : (openGate t s).env = s.env := by simp [openGate]
@[simp] theorem skipCycle_env (t : NodeTime) (s : State) : (skipCycle t s).env = s.env := by simp [skipCycle]
@[simp] theorem completeReading_env (v : ScalarValue) (s : State) : (completeReading v s).env = s.env := by
  unfold completeReading; split <;> simp

/-! ## The Window Unit (Windows.lean) -/

@[simp] theorem enterWindow_env (w : Entry) (s : State) : (enterWindow w s).env = s.env := by
  unfold enterWindow; dsimp only; split
  · simp
  · split <;> simp
@[simp] theorem dropWindow_env (id : WinId) (s : State) : (dropWindow id s).env = s.env := by
  unfold dropWindow; dsimp only; split <;> simp
@[simp] theorem markOverlapped_env (w : Entry) (s : State) : (markOverlapped w s).env = s.env := by
  simp [markOverlapped]
@[simp] theorem deferLost_env (f : WinFrame) (s : State) : (deferLost f s).env = s.env := by
  unfold deferLost; split
  · split
    · rfl
    · dsimp only; split <;> simp
  all_goals rfl
@[simp] theorem joinQueue_env (f : WinFrame) (s : State) : (joinQueue f s).env = s.env := by
  unfold joinQueue; dsimp only; split
  · simp
  · split
    · simp
    · split <;> simp
@[simp] theorem handAsk_env (s : State) : (handAsk s).env = s.env := by simp [handAsk]
@[simp] theorem compCause_env (k : Comp) (s : State) : (compCause k s).env = s.env := by
  unfold compCause; dsimp only; split <;> try simp
  all_goals split <;> simp
@[simp] theorem polarizeCause_env (t : NodeTime) (s : State) : (polarizeCause t s).env = s.env := by
  unfold polarizeCause; dsimp only; split <;> simp
@[simp] theorem refuseOwn_env (t : NodeTime) (b : Bool) (s : State) : (refuseOwn t b s).env = s.env := by
  unfold refuseOwn; dsimp only
  split <;> split <;> (try split) <;> simp
@[simp] theorem askSent_env (b : Bool) (d : Nat) (s : State) : (askSent b d s).env = s.env := by
  unfold askSent; dsimp only; split <;> simp
@[simp] theorem saturationReport_env (k : Comp) (s : State) : (saturationReport k s).env = s.env := by
  unfold saturationReport; dsimp only; split
  · split <;> try simp
    split <;> simp
  · rfl
@[simp] theorem refuseAsk_env (w : Entry) (n : Nat) (t : NodeTime) (s : State) : (refuseAsk w n t s).env = s.env := by
  unfold refuseAsk; dsimp only; split <;> simp
@[simp] theorem decideAsk_env (w : Entry) (n : Nat) (s : State) : (decideAsk w n s).env = s.env := by
  unfold decideAsk; dsimp only
  split
  · simp
  · split
    · split <;> simp
    · split
      · simp
      · split <;> simp
@[simp] theorem windowSent_env (f : WinFrame) (b : Bool) (d : Nat) (s : State) : (windowSent f b d s).env = s.env := by
  unfold windowSent; split <;> simp
@[simp] theorem windowDropped_env (f : WinFrame) (s : State) : (windowDropped f s).env = s.env := by
  unfold windowDropped; split <;> simp
@[simp] theorem grant_env (s : State) : (grant s).env = s.env := by simp [grant]
@[simp] theorem openWindow_env (s : State) : (openWindow s).env = s.env := by
  unfold openWindow; dsimp only; split <;> simp
@[simp] theorem removeWithdraws_env (s : State) : (removeWithdraws s).env = s.env := by
  unfold removeWithdraws; split <;> simp
@[simp] theorem tellEnd_env (s : State) : (tellEnd s).env = s.env := by
  unfold tellEnd; dsimp only; split <;> simp
@[simp] theorem afterEnd_env (s : State) : (afterEnd s).env = s.env := by
  unfold afterEnd; dsimp only; split <;> simp

/-! ## The Acquisition Unit (Acquisition.lean) -/

@[simp] theorem accumulate_env (c : Comp) (v : Serves) (k : SampleClass) (s : State) :
    (accumulate c v k s).env = s.env := by
  unfold accumulate; split
  · split <;> simp
  · rfl
@[simp] theorem nearRange_env (c : Comp) (d : Dir) (s : State) : (nearRange c d s).env = s.env := by
  unfold nearRange; split
  · rfl
  · split <;> simp
@[simp] theorem testCount_env (c : Comp) (r : Int) (s : State) : (testCount c r s).env = s.env := by
  unfold testCount; dsimp only; split <;> split <;> simp
@[simp] theorem takeCount_env (c : Comp) (smp : Sample) (r : Int) (s : State) : (takeCount c smp r s).env = s.env := by
  unfold takeCount; split <;> simp
@[simp] theorem probeReading_env (j : Nat) (n : Option Nat) (s : State) : (probeReading j n s).env = s.env := by
  unfold probeReading; dsimp only; split <;> simp
@[simp] theorem missingResult_env (j : Job) (s : State) : (missingResult j s).env = s.env := by
  unfold missingResult; split <;> simp
@[simp] theorem arrivedResult_env (j : Job) (ls : List Bool) (s : State) : (arrivedResult j ls s).env = s.env := by
  unfold arrivedResult; split <;> simp
@[simp] theorem endConversion_env (k : Converter) (s : State) : (endConversion k s).env = s.env := by
  unfold endConversion; split <;> simp
@[simp] theorem beginSample_env (a : BlankAnswer) (v : Serves) (c : Comp) (s : State) :
    (beginSample a v c s).env = s.env := by simp [beginSample]
@[simp] theorem trigger_env (s : State) : (trigger s).env = s.env := by simp [trigger]
@[simp] theorem closure_env (g : Gathering) (s : State) : (closure g s).env = s.env := by simp [closure]
@[simp] theorem probeScan_env (s : State) : (probeScan s).env = s.env := by simp [probeScan]
@[simp] theorem countEnd_env (t u : NodeTime) (s : State) : (countEnd t u s).env = s.env := by simp [countEnd]
@[simp] theorem dropPhases_env (s : State) : (dropPhases s).env = s.env := by simp [dropPhases]

/-! ## The Reference Input and the Agreement Unit (Reference.lean, Agreement.lean) -/

theorem countMiss_base (s : State) : (countMiss s).base = s.base := by
  unfold countMiss; split
  · rw [takeRequest_base]; rfl
  · rfl
@[simp] theorem takeMark_env (k : Nat) (p : List Byte) (c : Capture) (s : State) : (takeMark k p c s).env = s.env := by
  unfold takeMark; split
  · rfl
  · split <;> simp
@[simp] theorem closeRound_env (r : Round) (s : State) : (closeRound r s).env = s.env := by simp [closeRound]
theorem roundEnd_base (s : State) : (roundEnd s).base = s.base := by
  unfold roundEnd; dsimp only; split
  · exact base_of_env (closeRound_env _ s)
  · rw [takeRequest_base]; exact base_of_env (closeRound_env _ s)
@[simp] theorem handMark_env (s : State) : (handMark s).env = s.env := by simp [handMark]

/-- A tick at the label input touches nothing but the input (R46). -/
theorem RefInput.labelTick_kept (low : Bool) (reading : Nat) (r : RefInput) :
    r.labelTick low reading = { r with
      pinLow := low, charBegun := (r.labelTick low reading).charBegun, labelRx := (r.labelTick low reading).labelRx } := by
  unfold labelTick; split <;> rfl

/-! ## The Flag Unit (FlagUnit.lean) -/

@[simp] theorem periodicState_env (s : State) : (periodicState s).env = s.env := by simp [periodicState]

/-! ## The Line Unit (LineUnit.lean) -/

@[simp] theorem leadEdge_env (s : State) : (leadEdge s).env = s.env := (rfl)
@[simp] theorem endReception_env (s : State) : (endReception s).env = s.env := by simp [endReception]
@[simp] theorem duplicate_env (s : State) : (duplicate s).env = s.env := by simp [duplicate]
theorem commitFrame_env (k : Byte → Bool) (d : Frame → Reception → State → State)
    (hd : ∀ f r t, (d f r t).env = t.env) (s : State) : (commitFrame k d s).env = s.env := by
  unfold commitFrame; split
  · rfl
  · dsimp only; split
    · split <;> simp [hd]
    · rfl
theorem foldl_env {α : Type} (f : State → α → State) (hf : ∀ t x, (f t x).env = t.env) (l : List α) (s : State) :
    (l.foldl f s).env = s.env := by
  induction l generalizing s with
  | nil => rfl
  | cons x xs ih => simp [ih, hf]
@[simp] theorem takeBlock_env (f : Frame) (s : State) : (takeBlock f s).env = s.env := by
  unfold takeBlock; split
  · exact foldl_env _ (fun t x => commitPeer_env _ _ _ t) _ s
  · rfl
@[simp] theorem takeAsk_env (f : Frame) (r : Reception) (s : State) : (takeAsk f r s).env = s.env := by
  unfold takeAsk; dsimp only; split
  · rfl
  · split <;> simp
@[simp] theorem takeDefer_env (f : Frame) (r : Reception) (s : State) : (takeDefer f r s).env = s.env := by
  unfold takeDefer; dsimp only; split
  · split <;> try simp
    split <;> simp
  · rfl
@[simp] theorem takeWithdraw_env (f : Frame) (s : State) : (takeWithdraw f s).env = s.env := by
  unfold takeWithdraw; dsimp only; split <;> simp
@[simp] theorem startScan_env (a b : Nat) (s : State) : (startScan a b s).env = s.env := by
  unfold startScan; dsimp only; split <;> simp
@[simp] theorem takeRecall_env (f : Frame) (s : State) : (takeRecall f s).env = s.env := by
  unfold takeRecall; split <;> simp
@[simp] theorem clearFlags_env (g : Group) (m : Byte) (s : State) : (clearFlags g m s).env = s.env := by
  unfold clearFlags; dsimp only; split <;> simp
@[simp] theorem takeClear_env (f : Frame) (s : State) : (takeClear f s).env = s.env := by
  unfold takeClear; split
  · rfl
  · split <;> simp
@[simp] theorem withAttempt_env (a : Attempt) (s : State) : (withAttempt a s).env = s.env := by simp [withAttempt]
@[simp] theorem startAttempt_env (s : State) : (startAttempt s).env = s.env := by
  unfold startAttempt; split
  · simp
  · split
    · simp
    · split
      · simp
      · split
        · simp
        · split <;> simp
@[simp] theorem reportSent_env (a : Attempt) (s : State) : (reportSent a s).env = s.env := by
  unfold reportSent; split <;> try simp
  split <;> simp
@[simp] theorem reportFailed_env (a : Attempt) (n : Nat) (s : State) : (reportFailed a n s).env = s.env := by
  unfold reportFailed; split <;> try simp
  split
  · rfl
  · split <;> simp
@[simp] theorem reportDropped_env (a : Attempt) (s : State) : (reportDropped a s).env = s.env := by
  unfold reportDropped; split <;> try simp
  split <;> simp
@[simp] theorem collide_env (a : Attempt) (s : State) : (collide a s).env = s.env := by
  unfold collide; dsimp only; split <;> simp

end Sys2Proof.Machine
end

