-- ==== Sys2Proof/Laws/Flags.lean ====
section
/-! SUPPORT. What setting a flag does, and all that it leaves (R167 to R170, R175). -/

namespace Sys2Proof.Machine

theorem PerGroup.get_set {α : Type} (p : PerGroup α) (g k : Group) (v : α) :
    (p.set g v).get k = if k = g then v else p.get k := by cases g <;> cases k <;> rfl

@[simp] theorem handState_ref (s : State) : (handState s).ref = s.ref := (rfl)
@[simp] theorem handState_agr (s : State) : (handState s).agr = s.agr := (rfl)
@[simp] theorem handState_win (s : State) : (handState s).win = s.win := (rfl)
@[simp] theorem handState_acq (s : State) : (handState s).acq = s.acq := (rfl)
@[simp] theorem handState_corr (s : State) : (handState s).corr = s.corr := (rfl)
@[simp] theorem handState_ring (s : State) : (handState s).ring = s.ring := (rfl)
@[simp] theorem requestPulse_ref (s : State) : (requestPulse s).ref = s.ref := (rfl)
@[simp] theorem requestPulse_agr (s : State) : (requestPulse s).agr = s.agr := (rfl)
@[simp] theorem requestPulse_win (s : State) : (requestPulse s).win = s.win := (rfl)
@[simp] theorem requestPulse_acq (s : State) : (requestPulse s).acq = s.acq := (rfl)
@[simp] theorem requestPulse_corr (s : State) : (requestPulse s).corr = s.corr := (rfl)
@[simp] theorem requestPulse_ring (s : State) : (requestPulse s).ring = s.ring := (rfl)
@[simp] theorem closeGate_ref (g : Group) (s : State) : (closeGate g s).ref = s.ref := by simp [closeGate]
@[simp] theorem closeGate_agr (g : Group) (s : State) : (closeGate g s).agr = s.agr := by simp [closeGate]
@[simp] theorem closeGate_win (g : Group) (s : State) : (closeGate g s).win = s.win := by simp [closeGate]
@[simp] theorem closeGate_acq (g : Group) (s : State) : (closeGate g s).acq = s.acq := by simp [closeGate]
@[simp] theorem closeGate_corr (g : Group) (s : State) : (closeGate g s).corr = s.corr := by simp [closeGate]
@[simp] theorem closeGate_ring (g : Group) (s : State) : (closeGate g s).ring = s.ring := by simp [closeGate]
@[simp] theorem setFlag_ref (f : Flag) (s : State) : (setFlag f s).ref = s.ref := by
  unfold setFlag; dsimp only; split <;> simp
@[simp] theorem setFlag_agr (f : Flag) (s : State) : (setFlag f s).agr = s.agr := by
  unfold setFlag; dsimp only; split <;> simp
@[simp] theorem setFlag_win (f : Flag) (s : State) : (setFlag f s).win = s.win := by
  unfold setFlag; dsimp only; split <;> simp
@[simp] theorem setFlag_acq (f : Flag) (s : State) : (setFlag f s).acq = s.acq := by
  unfold setFlag; dsimp only; split <;> simp
@[simp] theorem setFlag_corr (f : Flag) (s : State) : (setFlag f s).corr = s.corr := by
  unfold setFlag; dsimp only; split <;> simp
@[simp] theorem setFlag_ring (f : Flag) (s : State) : (setFlag f s).ring = s.ring := by
  unfold setFlag; dsimp only; split <;> simp
@[simp] theorem setFlagIf_ref (b : Bool) (f : Flag) (s : State) : (setFlagIf b f s).ref = s.ref := by
  unfold setFlagIf; split <;> simp
@[simp] theorem setFlagIf_agr (b : Bool) (f : Flag) (s : State) : (setFlagIf b f s).agr = s.agr := by
  unfold setFlagIf; split <;> simp
@[simp] theorem setFlagIf_win (b : Bool) (f : Flag) (s : State) : (setFlagIf b f s).win = s.win := by
  unfold setFlagIf; split <;> simp
@[simp] theorem setFlagIf_acq (b : Bool) (f : Flag) (s : State) : (setFlagIf b f s).acq = s.acq := by
  unfold setFlagIf; split <;> simp
@[simp] theorem setFlagIf_corr (b : Bool) (f : Flag) (s : State) : (setFlagIf b f s).corr = s.corr := by
  unfold setFlagIf; split <;> simp
@[simp] theorem setFlagIf_ring (b : Bool) (f : Flag) (s : State) : (setFlagIf b f s).ring = s.ring := by
  unfold setFlagIf; split <;> simp

/-- The Line Unit but for its STATE slot. -/
def LineUnit.butState (l : LineUnit) : LineUnit := { l with stateSlot := Slot.empty }

@[simp] theorem handState_line (s : State) : (handState s).line.butState = s.line.butState := (rfl)
@[simp] theorem requestPulse_line (s : State) : (requestPulse s).line = s.line := (rfl)
@[simp] theorem closeGate_line (g : Group) (s : State) : (closeGate g s).line.butState = s.line.butState := by
  simp [closeGate]
@[simp] theorem setFlag_line (f : Flag) (s : State) : (setFlag f s).line.butState = s.line.butState := by
  unfold setFlag; dsimp only; split <;> simp
@[simp] theorem setFlagIf_line (b : Bool) (f : Flag) (s : State) :
    (setFlagIf b f s).line.butState = s.line.butState := by
  unfold setFlagIf; split <;> simp

@[simp] theorem handState_flags (s : State) : (handState s).flag.flags = s.flag.flags := (rfl)
@[simp] theorem handState_closed (s : State) : (handState s).flag.closed = s.flag.closed := (rfl)
@[simp] theorem requestPulse_flags (s : State) : (requestPulse s).flag.flags = s.flag.flags := (rfl)
@[simp] theorem requestPulse_closed (s : State) : (requestPulse s).flag.closed = s.flag.closed := (rfl)
@[simp] theorem closeGate_flags (g : Group) (s : State) : (closeGate g s).flag.flags = s.flag.flags := by
  simp [closeGate]
@[simp] theorem closeGate_closed (g : Group) (s : State) : (closeGate g s).flag.closed = s.flag.closed.set g true := by
  simp [closeGate]

/-- A setting sets its flag in its group's byte and no other (R167). -/
@[simp] theorem setFlag_flags (f : Flag) (s : State) :
    (setFlag f s).flag.flags = s.flag.flags.set f.group (s.flag.flags.get f.group ||| f.mask) := by
  unfold setFlag; dsimp only; split <;> simp

/-- A setting closes its group's gate when the flag is enabled and the gate OPEN (R169). -/
theorem setFlag_closed (f : Flag) (s : State) :
    (setFlag f s).flag.closed =
      if flagEnabled f s && !s.flag.closed.get f.group then s.flag.closed.set f.group true else s.flag.closed := by
  unfold setFlag; dsimp only; split <;> simp [*]

end Sys2Proof.Machine
end

