-- ==== Sys2Proof/Laws/Port.lean ====
section
/-! SUPPORT. What the node takes from the levels of the converter port's data input (R199). -/

namespace Sys2Proof.Machine

theorem risingEdge_iff (k : Nat) : risingEdge k = decide (k % 2 = 0) := by
  unfold risingEdge sckAfter
  rcases Nat.mod_two_eq_zero_or_one k with h | h <;> simp [h, Nat.add_mod]

/-- Of the levels from a rising edge on, every second one is sampled. -/
theorem sampledFrom_pair (k : Nat) (a b : Bool) (ls : List Bool) (h : k % 2 = 0) :
    sampledFrom k (a :: b :: ls) = a :: sampledFrom (k + 2) ls := by
  simp [sampledFrom, risingEdge_iff, h, Nat.add_mod]

theorem sampledFrom_one (k : Nat) (a : Bool) (h : k % 2 = 0) : sampledFrom k [a] = [a] := by
  simp [sampledFrom, risingEdge_iff, h]

/-- Bit i taken is the level at edge 2i, pulled up where none is given. -/
theorem sampledFrom_getD : ∀ (ls : List Bool) (k i : Nat), k % 2 = 0 →
    (sampledFrom k ls).getD i true = ls.getD (2 * i) true
  | [], _, _, _ => by simp [sampledFrom]
  | [a], k, i, h => by rw [sampledFrom_one k a h]; cases i <;> simp [Nat.mul_add]
  | a :: b :: ls, k, 0, h => by rw [sampledFrom_pair k a b ls h]; rfl
  | a :: b :: ls, k, i + 1, h => by
    rw [sampledFrom_pair k a b ls h]
    simpa [Nat.mul_add] using sampledFrom_getD ls (k + 2) i (by omega)

theorem getD_drop (bits : List Bool) (n i : Nat) : (bits.drop n).getD i true = bits.getD (n + i) true := by
  simp [List.getD_eq_getElem?_getD]

theorem bytesOfBits_eq (n : Nat) : ∀ bits : List Bool,
    bytesOfBits n bits = (List.range n).map fun i => takenByte (bits.drop (8 * i)) := by
  induction n with
  | zero => intro bits; rfl
  | succ n ih =>
    intro bits
    rw [bytesOfBits, ih, List.range_succ_eq_map]
    simp [List.drop_drop, Nat.mul_add, Nat.add_comm]

/-- What takenBytes gives: byte i from the levels at the rising edges among its sixteen edges (R199). -/
theorem takenBytes_eq (n : Nat) (levels : List Bool) :
    takenBytes n levels = (List.range n).map fun i => BitVec.ofNat 8 (byteTaken i levels) := by
  rw [takenBytes, bytesOfBits_eq]
  refine List.map_congr_left fun i _ => ?_
  rw [takenByte, byteTaken]
  congr 2
  funext v j
  rw [getD_drop, sampledFrom_getD _ _ _ rfl]
  simp [weight, Nat.mul_add, ← Nat.mul_assoc]

theorem byteTaken_lt (i : Nat) (levels : List Bool) : byteTaken i levels < 256 := by
  have h : ∀ (js : List Nat) (f : Nat → Nat) (v : Nat), (∀ j, f j ≤ 1) →
      js.foldl (fun v j => 2 * v + f j) v < (v + 1) * 2 ^ js.length := by
    intro js f
    induction js with
    | nil => intro v _; simp
    | cons j js ih =>
      intro v hf
      have := ih (2 * v + f j) hf
      have := hf j
      have : (2 * v + f j + 1) * 2 ^ js.length ≤ (2 * v + 2) * 2 ^ js.length := Nat.mul_le_mul_right _ (by omega)
      simp only [List.foldl_cons, List.length_cons, Nat.pow_succ]
      calc _ < _ := ‹_›
        _ ≤ _ := this
        _ = _ := by ring
  have := h (List.range 8) (fun j => if levels.getD (16 * i + 2 * j) true then 1 else 0) 0
    (fun j => by split <;> omega)
  simpa [byteTaken] using this

/-- A field count from the levels of its three bytes (R199). -/
theorem fieldCount_eq (levels : List Bool) :
    fieldCount levels = countOf (byteTaken 0 levels) (byteTaken 1 levels) (byteTaken 2 levels) := by
  have h := takenBytes_eq 3 levels
  rw [show (List.range 3).map (fun i => BitVec.ofNat 8 (byteTaken i levels)) =
    [BitVec.ofNat 8 (byteTaken 0 levels), BitVec.ofNat 8 (byteTaken 1 levels), BitVec.ofNat 8 (byteTaken 2 levels)]
    from rfl] at h
  have h0 := byteTaken_lt 0 levels
  have h1 := byteTaken_lt 1 levels
  have h2 := byteTaken_lt 2 levels
  rw [fieldCount, h]
  generalize byteTaken 0 levels = a at *
  generalize byteTaken 1 levels = b at *
  generalize byteTaken 2 levels = c at *
  have hn : beNat [BitVec.ofNat 8 a, BitVec.ofNat 8 b, BitVec.ofNat 8 c] = 65536 * a + 256 * b + c := by
    simp only [beNat, List.reverse_cons, List.reverse_nil, List.nil_append, List.cons_append, leNat, BitVec.toNat_ofNat,
      Nat.reducePow, Nat.mod_eq_of_lt h0, Nat.mod_eq_of_lt h1, Nat.mod_eq_of_lt h2]
    omega
  rw [hn]
  unfold countOf signedOf
  simp only [Nat.reducePow]
  push_cast
  split_ifs <;> omega

/-- A status is ready by the level at its eighth rising edge (R199). -/
theorem statusReady_eq (levels : List Bool) : statusReady levels = levels.getD 14 true := by
  have h : ∃ v, byteTaken 0 levels = 2 * v + if levels.getD 14 true then 1 else 0 :=
    ⟨_, by rw [byteTaken, List.range_succ (n := 7), List.foldl_append]; rfl⟩
  have h0 := byteTaken_lt 0 levels
  have ht := takenBytes_eq 1 levels
  rw [show (List.range 1).map (fun i => BitVec.ofNat 8 (byteTaken i levels)) = [BitVec.ofNat 8 (byteTaken 0 levels)]
    from rfl] at ht
  rw [statusReady, ht]
  obtain ⟨v, hv⟩ := h
  generalize byteTaken 0 levels = a at *
  generalize levels.getD 14 true = x at *
  simp [bitSet, bitsOf, beNat, leNat, Nat.mod_eq_of_lt, h0]
  cases x <;> simp at hv ⊢ <;> omega

/-- The levels at the clock's edges of bytes that a device gives, most significant bit first, each bit held from its rising
edge to the falling one (R199). -/
def levelsOf (bs : List Byte) : List Bool := (portBits bs).flatMap fun b => [b, b]

theorem sampledFrom_doubled : ∀ (bits : List Bool) (k : Nat), k % 2 = 0 →
    sampledFrom k (bits.flatMap fun b => [b, b]) = bits
  | [], _, _ => rfl
  | b :: bits, k, h => by
    show sampledFrom k (b :: b :: bits.flatMap fun b => [b, b]) = b :: bits
    rw [sampledFrom_pair k b b _ h, sampledFrom_doubled bits (k + 2) (by omega)]

theorem takenByte_bits (b : Byte) (rest : List Bool) :
    takenByte ((List.range 8).map (fun i => b.getLsbD (7 - i)) ++ rest) = b := by
  have h : takenByte ((List.range 8).map (fun i => b.getLsbD (7 - i))) = b := by
    revert b; decide +kernel
  conv_rhs => rw [← h]
  rfl

/-- What a device gives most significant bit first, the node takes (R199). -/
theorem takenBytes_levelsOf (bs : List Byte) : takenBytes bs.length (levelsOf bs) = bs := by
  rw [takenBytes, levelsOf, sampledFrom_doubled _ _ rfl]
  induction bs with
  | nil => rfl
  | cons b bs ih =>
    show bytesOfBits (bs.length + 1) ((List.range 8).map (fun i => b.getLsbD (7 - i)) ++ portBits bs) = b :: bs
    rw [bytesOfBits, takenByte_bits, List.drop_left' (by simp), ih]

end Sys2Proof.Machine
end

