-- ==== Sys2Proof/Laws/Start.lean ====
section
/-! SUPPORT. The start sequence stage by stage: what each stage leaves, and the stages one after another. -/

namespace Sys2Proof.Machine

/-! ## The stage that is next (R184) -/

theorem takeStage_verdict {s : State} (h : s.loader.phase = .starting .verdict) : takeStage s = giveVerdict s := by
  simp [takeStage, h]
theorem takeStage_settle {s : State} (h : s.loader.phase = .starting .settle) : takeStage s = settleStage s := by
  simp [takeStage, h]
theorem takeStage_load {s : State} {set : Settled} (h : s.loader.phase = .starting (.load set)) :
    takeStage s = loadStage set s := by simp [takeStage, h]
theorem takeStage_flags {s : State} {clamped : Bool} (h : s.loader.phase = .starting (.flags clamped)) :
    takeStage s = flagStage clamped s := by simp [takeStage, h]
theorem takeStage_note {s : State} (h : s.loader.phase = .starting .note) : takeStage s = noteStage s := by
  simp [takeStage, h]
theorem takeStage_clock {s : State} (h : s.loader.phase = .starting .clock) : takeStage s = clockStage s := by
  simp [takeStage, h]

/-- A node that is not in its start sequence has no stage to take. -/
theorem takeStage_of_not_starting {s : State} (h : ∀ next, s.loader.phase ≠ .starting next) : takeStage s = s := by
  cases hp : s.loader.phase with
  | starting next => exact absurd hp (h next)
  | held | readingImage | running => simp [takeStage, hp]

/-! ## What a stage leaves -/

theorem noteStage_env (s : State) : (noteStage s).env = (atStage .clock s).env := by
  have h := State.env_eq (commitNote_env (.reset s.loader.pendingCause) s)
  simp only [noteStage, atStage, State.env, State.withLoader, h.1, h.2.1, h.2.2.1, h.2.2.2.1, h.2.2.2.2]

/-- No stage touches the commands that wait, nor the tick count. -/
theorem takeStage_pending (s : State) : (takeStage s).pending = s.pending ∧ (takeStage s).tick = s.tick := by
  unfold takeStage
  split
  · exact ⟨rfl, rfl⟩
  · exact ⟨rfl, rfl⟩
  · exact ⟨rfl, rfl⟩
  · rename_i clamped _
    have h := State.env_eq ((setFlagIf_env clamped .configClamped _).trans
      ((setFlagIf_env (decide (s.loader.verdict = .defaults)) .configDefault _).trans
        (setFlag_env s.loader.pendingCause.flag s)))
    exact ⟨h.1, h.2.1⟩
  · have h := State.env_eq (noteStage_env s)
    exact ⟨h.1, h.2.1⟩
  · exact ⟨rfl, rfl⟩
  all_goals exact ⟨rfl, rfl⟩

/-- The stages taken one after another are the stage taken so many times. -/
theorem takeStages_eq_iterate (n : Nat) (s : State) : takeStages n s = takeStage^[n] s := by
  induction n generalizing s with
  | zero => rfl
  | succ n ih => simp [takeStages, ih]

theorem takeStages_pending (n : Nat) (s : State) :
    (takeStages n s).pending = s.pending ∧ (takeStages n s).tick = s.tick := by
  induction n generalizing s with
  | zero => exact ⟨rfl, rfl⟩
  | succ n ih =>
    have h := ih (takeStage s)
    have h' := takeStage_pending s
    exact ⟨h.1.trans h'.1, h.2.trans h'.2⟩

/-- What every stage keeps, the stages keep. -/
theorem takeStages_keeps {p : State → Prop} (hp : ∀ s, p s → p (takeStage s)) (n : Nat) {s : State} (h : p s) :
    p (takeStages n s) := by
  induction n generalizing s with
  | zero => exact h
  | succ n ih => exact ih (hp s h)

/-- A node that is not in its start sequence takes no stages. -/
theorem takeStages_of_not_starting (n : Nat) {s : State} (h : ∀ next, s.loader.phase ≠ .starting next) :
    takeStages n s = s := by
  induction n with
  | zero => rfl
  | succ n ih => rw [takeStages, takeStage_of_not_starting h, ih]

/-- The stages to the eighth, from the verdict on, as the six of them. -/
theorem stagesThrough_eight (s : State) :
    stagesThrough 8 s = takeStage (takeStage (takeStage (takeStage (takeStage (giveVerdict (atStage .verdict s)))))) := rfl

end Sys2Proof.Machine
end

