-- ==== Sys2Proof/Tests/Slice0.lean ====
section
/-! SUPPORT. Tests: the ill-formed terms that WellFormed refuses, the manual's worked examples, and for each statement
with hypotheses a concrete state and operands that meet them. -/

namespace Sys2Proof.Tests

open Sys2Proof Sys2Proof.Machine

set_option Elab.async false

/-! ## Well-formedness -/

theorem test_pollComplete_too_long : Instr.wellFormed (.pollComplete (List.replicate 17 true)) = false := by decide
theorem test_resultArrival_too_long : Instr.wellFormed (.resultArrival (List.replicate 65 true)) = false := by decide
theorem test_imageRead_too_long : Instr.wellFormed (.imageRead ⟨List.replicate 16385 true, 8⟩) = false := by
  decide +kernel
theorem test_imageRead_stage : Instr.wellFormed (.imageRead ⟨[], 1⟩) = false ∧ Instr.wellFormed (.imageRead ⟨[], 9⟩) = false := by
  decide
theorem test_powerOnRelease_station : Instr.wellFormed (.powerOnRelease ⟨⟨16, 0, false⟩, 8⟩) = false := by decide
theorem test_powerOnRelease_role : Instr.wellFormed (.powerOnRelease ⟨⟨0, 4, false⟩, 8⟩) = false := by decide
theorem test_powerOnRelease_stage : Instr.wellFormed (.powerOnRelease ⟨⟨0, 0, false⟩, 0⟩) = false ∧
    Instr.wellFormed (.powerOnRelease ⟨⟨0, 0, false⟩, 9⟩) = false := by decide
theorem test_resetPinRelease_station : Instr.wellFormed (.resetPinRelease ⟨⟨16, 0, true⟩, 8⟩) = false := by decide
theorem test_resetPinRelease_role : Instr.wellFormed (.resetPinRelease ⟨⟨15, 4, true⟩, 8⟩) = false := by decide
theorem test_resetPinRelease_stage : Instr.wellFormed (.resetPinRelease ⟨⟨15, 3, true⟩, 0⟩) = false ∧
    Instr.wellFormed (.resetPinRelease ⟨⟨15, 3, true⟩, 9⟩) = false := by decide
theorem test_wellFormed_accepts : Instr.wellFormed (.powerOnRelease ⟨⟨15, 3, true⟩, 1⟩) = true ∧
    Instr.wellFormed (.resultArrival (levelsOf [1, 2, 3, 4])) = true ∧
    Instr.wellFormed (.pollComplete (levelsOf [1])) = true ∧ Instr.wellFormed (.imageRead ⟨[], 2⟩) = true := by
  decide +kernel

/-! ## The manual's worked examples -/

/-- The clock of an example. -/
def clockAt (s ns rem : Nat) (trim slew : Int) (t : Timebase) : Clock :=
  { seconds := s, nanoseconds := ns, remainder := rem, trim := trim, slew := slew, state := t }

/-- The first worked advance: carry into the nanoseconds and the seconds, and the end of the slew (01, 1.2). -/
theorem test_tick_carry :
    (clockAt 41 999999900 9750000 9 1100000 .agreed).advance = clockAt 42 1 250009 9 600000 .agreed ∧
    (clockAt 42 101 750018 9 100000 .agreed).advance = clockAt 42 201 850027 9 0 .agreed := by decide

/-- The second worked advance: a borrow of 1 ns (01, 1.2). -/
theorem test_tick_borrow :
    (clockAt 42 500 200000 (-40) (-700000) .agreed).advance = clockAt 42 599 9699960 (-40) (-200000) .agreed := by decide

/-- The two steps of R7. -/
theorem test_step_examples :
    (clockAt 12 400000000 5000000 7 99 .agreed).step 734560123456 = clockAt 746 960123456 5000000 7 0 .agreed ∧
    (clockAt 5 100 0 7 99 .agreed).step (-6000000000) = clockAt 4294967295 100 0 7 0 .agreed := by decide

/-- The worked slew of a round end, and the storm night's acquisition (01, 1.3 and 1.4). -/
theorem test_slew_examples :
    (clockAt 0 0 0 0 0 .agreed).startSlew 1200 8 = clockAt 0 0 0 9 12000000000 .agreed ∧
    (clockAt 0 0 0 14 0 .agreed).startSlew (-2300) 1 = clockAt 0 0 0 (-129) (-23000000000) .agreed := by decide

/-- The two measurements of R22. -/
theorem test_measurements :
    measurement 300 0 1000500000000 ⟨1000499998100, 12000000000⟩ = 1000 ∧
    measurement 300 2000000 77000002000 ⟨76999999000, -8000004⟩ = -1996700 := by decide

/-- The pulse error and the nearest second at the ends of their ranges (R40). -/
theorem test_pulse_errors :
    pulseError 7499999999 = 499999999 ∧ pulseSecond 7499999999 = 7 ∧ pulseError 7500000000 = -500000000 ∧
    pulseSecond 4294967295500000000 = 0 := by decide

/-- The label message of R197: its sum byte 0xCB makes the sum 0. -/
theorem test_label_sum :
    labelSumZero [0xA3, 0xFB, 0xE1, 0x4E, 0x68, 0xCB] = true ∧ leBytes 4 1750000123 = [0xFB, 0xE1, 0x4E, 0x68] := by
  decide

/-- The check of R59 over the nine bytes 0x31 to 0x39. -/
theorem test_check :
    crc [0x31, 0x32, 0x33, 0x34, 0x35, 0x36, 0x37, 0x38, 0x39] = 0x6F91#16 := by decide +kernel

/-- The generator's first value at station 0 is 1, whose next is 32,768 (R68: bit 0 is set, so the sum is odd). -/
theorem test_generator : advanceGenerator 1 = 32768 ∧ advanceGenerator 9 = 4 ∧ drawSlots 3 4 999999999 = 3 := by decide

/-- The temperatures of R131. -/
theorem test_temperatures :
    temperatureOf ⟨-5000, 12000⟩ 34063 = 1237 ∧ temperatureOf ⟨-5000, 12000⟩ 8192 = -3500 ∧
    temperatureOf ⟨-5000, 12000⟩ 1 = -5000 ∧ temperatureOf ⟨-5000, 12000⟩ 65534 = 7000 ∧
    temperatureOf ⟨0, 30000⟩ 50000 = 7000 := by decide

/-- The interpolations of R134. -/
theorem test_interpolations :
    interpolate 1000 1500 1500 2300 1237 = 1879 ∧ interpolate 1000 1500 2300 1500 1237 = 1921 ∧
    interpolate 0 2 0 (-1) 1 = -1 ∧ interpolate 0 2 0 1 1 = 1 ∧
    interpolate (-2000) 0 (-40000) (-40000) (-700) = -40000 := by
  decide

/-- The worked second of component X: the samples' values, the mean, the corrected value (07, 7.4). -/
theorem test_worked_component :
    roundHalfAway (1200001 * 500) 1000 = 600001 ∧ roundHalfAway (1200003 * 500) 1000 = 600002 ∧
    roundHalfAway 148800014 8 = 18600002 ∧
    lookUp [⟨1000, 1500, 250⟩, ⟨1500, 2300, 330⟩] 1237 = (1879, 288, false) ∧
    correctedBy 18600002 1879 288 = 18598069 := by decide

/-- The worked scalar reading, and the largest F (R136). -/
theorem test_worked_scalar :
    scalarField 2128800 = 49999551 ∧ correctedBy 49999551 (-120) 0 = 49999671 ∧ scalarField 17000000 = 399282400 := by
  decide

/-- The first round end at P, and the MARK instant of station 5 at 2.5 s (R19, R39). -/
theorem test_first_instants :
    (Agreement.afterReset { Settings.beforeLoad with station := 5 }).nextRound = 8000000000 ∧
    (Agreement.afterReset { Settings.beforeLoad with station := 5 }).nextMark = 2500000000 ∧
    (Agreement.afterReset Settings.beforeLoad).nextMark = 8000000000 := by decide

/-- The trigger instants after the three worked steps (R124). -/
theorem test_triggers_after_steps :
    firstInstant 100000000 50000000 1002500000000 = 1002550000000 ∧ secondOfInstant 1002550000000 = 1003 ∧
    firstInstant 100000000 50000000 997900000000 = 997950000000 ∧ secondOfInstant 997950000000 = 998 ∧
    firstInstant 100000000 50000000 1000440000000 = 1000450000000 := by decide

/-- A NOTE's bytes by the table of R196: STEP of −1 ns at station 3, role SCALAR, HOLDOVER, tag 258 s 5 ms. -/
theorem test_note_bytes :
    (Record.bytes { station := 3, role := .scalar, seconds := 258, millis := 5, timebase := .holdover,
                    flags := RecordFlags.noFlags, body := .note (.step (-1)) }) =
      [0x33, 0x13, 0x02, 0x01, 0, 0, 5, 0, 0, 0, 1, 0] ++ List.replicate 8 0xFF ++ List.replicate 12 0 := by decide

/-- The node's 26 flags have 26 places: 6 TIME, 5 LINE, 7 DATA, 4 WINDOW, 4 START (09, 9.1). -/
theorem test_all_flags : allFlags = { time := 0x3F, line := 0x1F, data := 0x7F, window := 0x0F, start := 0x0F } ∧
    Flag.mask .ringWrap = 0x40 ∧ Flag.group .ringWrap = .data := by decide

/-! ## Witnesses: states and operands that meet the hypotheses of the statements -/

/-- Station 3 of a role code, started with the defaults. -/
def node (role : Nat) : State :=
  stagesThrough 8
    { State.reset with
      loader := { State.reset.loader with
        powerOn := false, begun := true, goodTicks := 65536, straps := ⟨3, role, false⟩ } }

def n0 : State := node 0
def n1 : State := node 1

/-- A whole good frame of station 5 in the receiver. -/
def frameIn (station : Nat) (kind : Byte) (payload : List Byte) : Reception :=
  { capture := ⟨0, 0⟩, leadTick := 0, own := false, chars := sentChars station .vector kind payload.length payload,
    framing := false }

/-- A node that has heard a frame. -/
def hears (r : Reception) (s : State) : State :=
  { s with line := { s.line with reception := some r, idleRun := 0 }, win := { s.win with leadCap := some 0 } }

def ofLine (f : LineUnit → LineUnit) (s : State) : State := { s with line := f s.line }
def ofWin (f : WindowUnit → WindowUnit) (s : State) : State := { s with win := f s.win }
def ofOwn (f : OwnWindow → OwnWindow) (s : State) : State := { s with win := { s.win with own := f s.win.own } }
def ofAcq (f : Acquisition → Acquisition) (s : State) : State := { s with acq := f s.acq }
def ofRef (f : RefInput → RefInput) (s : State) : State := { s with ref := f s.ref }
def ofAgr (f : Agreement → Agreement) (s : State) : State := { s with agr := f s.agr }
def ofRing (f : RecordRing → RecordRing) (s : State) : State := { s with ring := f s.ring }
def ofFlag (f : FlagUnit → FlagUnit) (s : State) : State := { s with flag := f s.flag }
def ofCfg (f : Settings → Settings) (s : State) : State := { s with cfg := f s.cfg }
def ofLoader (f : Loader → Loader) (s : State) : State := { s with loader := f s.loader }
def ofClock (f : Clock → Clock) (s : State) : State := { s with clock := f s.clock }

/-- The node with its clock in a state, at a reading. -/
def at_ (reading : Nat) (t : Timebase) (s : State) : State :=
  ofClock (fun k => { k with seconds := reading / 1000000000, nanoseconds := reading % 1000000000, state := t }) s

theorem witness_StepTakesTheFrontCommand :
    ({ n0 with pending := [.roundEnd, .pulse] } : State).pending = .roundEnd :: [.pulse] ∧
    (n0.pending = [] ∧ n0.loader.phase = .running) ∧
    (atStage .note n0).pending = [] ∧ (atStage .note n0).loader.phase = .starting .note := by decide +kernel

theorem witness_OnlyTheseChangeTheBlocks :
    restarts .markInstant = false ∧ disciplines .markInstant = false ∧
    (∀ pins, Instr.markInstant ≠ .oscillatorTick pins) ∧ ∃ t, exec .markInstant n0 = .next t :=
  ⟨rfl, rfl, by simp, _, rfl⟩

/-- Two misses in REFERENCED, and the absence deadline reached: the third. -/
def lossNear : State :=
  ofRef (fun r => { r with missCount := 2, deadline := some 0, lastPulse := some 0 }) (at_ 0 .referenced n0)

theorem witness_TimebaseTransitions :
    restarts .absenceDeadline = false ∧ lossNear.clock.state = .referenced ∧
    ∃ t, exec .absenceDeadline lossNear = .next t ∧ t.clock.state ≠ .referenced :=
  ⟨rfl, by decide +kernel, _, rfl, by decide +kernel⟩

theorem witness_NoStartUnlessActive :
    n0.line.state ≠ .active ∧ n0.line.attempt = none ∧ ∃ t, exec .attemptStart n0 = .next t :=
  ⟨by decide +kernel, by decide +kernel, _, rfl⟩

theorem witness_HeldNodeTakesNothing :
    State.reset.loader.phase ≠ .running ∧ restarts .pulse = false ∧ (∀ pins, Instr.pulse ≠ .oscillatorTick pins) ∧
    Instr.pulse ≠ .alarmRelease := ⟨by decide, rfl, by simp, by decide⟩

/-- The reset state with a tick waiting. -/
def tickWaits : State := { State.reset with pending := [.oscillatorTick ⟨true, true, false, false⟩] }

/-- A law on settings that wait holds of a node at no stage where settings wait. -/
theorem waiting_of_phase {p : Settings → Prop} {s : State} {ph : Phase} (h : s.loader.phase = ph)
    (hp : ∀ set, ph ≠ .starting (.load set)) : Waiting p s := fun set hs => absurd (h ▸ hs) (hp set)

theorem witness_StepKeepsClockLaw : ClockLaw tickWaits ∧ ∃ t, step tickWaits = .next t :=
  ⟨⟨by decide, by decide, by decide, by decide, by decide, by decide, by decide,
    waiting_of_phase (ph := .held) rfl (by simp)⟩, _, rfl⟩

theorem witness_StepKeepsGateLaw : GateLaw tickWaits ∧ ∃ t, step tickWaits = .next t :=
  ⟨by unfold GateLaw GroupLaw; decide, _, rfl⟩

theorem witness_StepKeepsBlockLaws : BlockLaws tickWaits ∧ ∃ t, step tickWaits = .next t := by
  have w {p : Settings → Prop} : Waiting p tickWaits := waiting_of_phase (ph := .held) rfl (by simp)
  refine ⟨⟨⟨?_, ?_, ?_, w⟩, ?_, ?_, ⟨?_, ?_, ?_, ?_, ?_, ?_, w⟩, ?_, ?_, ?_, ?_, w⟩, _, rfl⟩ <;>
    first | (unfold ComponentLaw; decide +kernel) | (unfold TableLaw; decide +kernel) | (unfold ListLaw; decide +kernel) |
      decide +kernel

theorem witness_StepKeepsHeldLaw : HeldLaw tickWaits ∧ ∃ t, step tickWaits = .next t :=
  ⟨by unfold HeldLaw; decide +kernel, _, rfl⟩

/-- Two seconds stored, and a later one being gathered. -/
def stored : State :=
  { ofAcq (fun a => { a with gathering := some { second := 2, acc := Triple.all Accum.empty }, lastClosed := some 1 }) n0
    with corr := { n0.corr with recentF := [(0, 7), (1, 8)] } }

theorem witness_StepKeepsRingLaws :
    (FieldLaw tickWaits ∧ ScanLaw tickWaits ∧ TagLaw tickWaits ∧ ∃ t, step tickWaits = .next t) ∧
    BufferLaw stored ∧ stored.acq.gathering = some { second := 2, acc := Triple.all Accum.empty } ∧
    (∀ e ∈ stored.corr.recentF, 0 < secondsDifference 2 e.1) ∧ ∃ t, step stored = .next t := by
  have he : tickWaits.ring.records = [] := rfl
  refine ⟨⟨?_, ?_, ⟨?_, ?_, ?_, ?_⟩, _, rfl⟩, by unfold BufferLaw; decide +kernel, rfl, by decide +kernel, _, rfl⟩
  · intro r hr; rw [he] at hr; cases hr
  · intro sc h; exact absurd h (by simp [tickWaits, State.reset, RecordRing.afterPowerOn])
  · intro before between behind a b v w h; rw [he] at h; simp at h
  · intro _; exact ⟨rfl, rfl, by intro c h; cases h⟩
  · intro g l h; cases h
  · intro _ a ⟨before, behind, v, h, _⟩; rw [he] at h; simp at h

theorem witness_NodeTimesOnTheCircle :
    (0 : Nat) < 4294967296000000000 ∧ (4294967295999999999 : Nat) < 4294967296000000000 ∧
    (-2147483648000000000 : Int) ≤ -2147483648000000000 ∧ (2147483647999999999 : Int) < 2147483648000000000 := by decide

theorem witness_TickAdvancesTheClock : n0.running = true ∧ ClockLaw n0 :=
  ⟨by decide +kernel, by decide +kernel, by decide +kernel, by decide +kernel, by decide +kernel, by decide +kernel,
    by decide +kernel, by decide +kernel, waiting_of_phase (ph := .running) (by decide +kernel) (by simp)⟩

theorem witness_TickCountsForTheResets : State.reset.running = false := by decide

/-- An attempt that has begun: the MARK at its time's instant, then the window frame named, at the front of the queue. -/
def attempts (item : Item) (ticks : Nat) (q : Queued) (s : State) : State :=
  ofWin (fun w => { w with leadCap := some 0 }) (ofLine (fun l => { l with
    attempt := some { Attempt.begun item 1 9 [] with ticks := ticks, lead := some ⟨0, 0⟩ }, queue := [q] }) s)

def deferFrame (marked inAttempt : Bool) (failures : Nat) : Queued :=
  { frame := .defer ⟨⟨5, 0⟩, .compStep, 0, 9000000000, false⟩ 0 0 true marked, failures := failures, inAttempt := inAttempt }

theorem witness_TickCountsTheLine :
    (n0.running = true ∧ n0.line.attempt = none ∧ n0.line.jam = none ∧ n0.line.charRx = none ∧
      n0.line.level = false) ∧
    (let s := attempts .mark 800 (deferFrame false false 0) n0
     s.line.attempt.map (·.item) = some .mark ∧ s.line.attempt.map (·.ticks) = some 800) ∧
    (let s := attempts .window 1000 (deferFrame false true 0) n0
     s.line.queue = deferFrame false true 0 :: [] ∧ (deferFrame false true 0).inAttempt = true ∧ s.win.leadCap = some 0) ∧
    (190 : Nat) + 1 < 200 ∧
    (ofLine (fun l => { l with charRx := some ⟨199, 0#8, false⟩, jam := some 1 }) n0).line.jam = some 1 := by
  decide +kernel

theorem witness_NotesOfARequest :
    Request.takenIn (.round 5) n0.clock.state = true ∧ n0.ring.records.length + 2 ≤ 16384 ∧
    (Request.round 5).stepMade n0.cfg.period n0.clock = some 5 ∧
    Request.takenIn .holdover (at_ 0 .agreed n0).clock.state = true ∧
    Request.holdover.stepMade n0.cfg.period (at_ 0 .agreed n0).clock = none := by decide +kernel

/-- With L at 8 s and the reading at 7.9 s, 8 s is the one instant passed over. -/
theorem witness_RoundTimerAfterAStep :
    n0.cfg.period ∈ [2, 4, 8, 16] ∧ (7900000000 : Nat) < 4294967296000000000 ∧
    (8000000000 : Nat) % (n0.cfg.period * 1000000000) = 0 ∧ later 8000000000 7900000000 = true ∧
    diff 8000000000 7900000000 <
      diff ({ n0.agr with lastRound := some 8000000000 }.onStep n0.cfg 7900000000 5).nextRound 7900000000 := by
  decide +kernel

/-- A MARK of station 5, AGREED; then with a state code that names none, and with its round crossed. -/
def markIn (code : Byte) : Reception := frameIn 5 1 [1, 0, 0, 0, 2, 0, 0, 0, code]

theorem witness_MarkReceivedIsMeasured :
    (Heard (markIn 2) (hears (markIn 2) n0) ∧ kindOf (markIn 2) = 1#8 ∧ senderOf (markIn 2) ≠ n0.cfg.station ∧
      Timebase.ofCode (natAt 8 1 (payloadOf (markIn 2))) = some .agreed ∧
      (hears (markIn 2) n0).agr.roundCrossed = false ∧ (payloadOf (markIn 2)).length = 9) ∧
    (Heard (markIn 4) (hears (markIn 4) n0) ∧ Timebase.ofCode (natAt 8 1 (payloadOf (markIn 4))) = none) ∧
    Heard (markIn 3) (hears (markIn 3) (ofAgr (fun a => { a with roundCrossed := true }) n0)) := by
  unfold Heard; decide +kernel

/-- Four candidates, one beyond the range 0 to 10 of the correct ones: (4 − 1) ÷ 3 = 1. -/
theorem witness_WrongCandidates :
    ([⟨1, 0⟩, ⟨2, 5⟩, ⟨3, 10⟩, ⟨4, 11⟩] : List Candidate) ≠ [] ∧
    (([⟨1, 0⟩, ⟨2, 5⟩, ⟨3, 10⟩, ⟨4, 11⟩] : List Candidate).filter fun c => decide (c.offset < 0 ∨ 10 < c.offset)).length ≤
      (4 - 1) / 3 := by decide

/-- A row of station 5 measured at 0, LIVE. -/
def liveRow : Row :=
  { station := 5, state := .live, peer := .agreed, offset := 1200, fresh := true, age := 0, run := 0, excludedFor := 0,
    lastCapture := some 0 }

def roundAlone : State := ofAgr (fun a => { a with nextRound := 0 }) n0
def roundOf2 : State := ofAgr (fun a => { a with rows := [liveRow] }) (at_ 0 .agreed roundAlone)

/-- The chapter's drifting peer: station 12, far from the midpoint for the eighth time. -/
def drifting : List Row :=
  [{ liveRow with station := 2, offset := 100 }, { liveRow with station := 5, offset := -200 },
   { liveRow with station := 7, offset := 300 }, { liveRow with station := 9, offset := -50 },
   { liveRow with station := 12, offset := 7000000, run := 7 }]

def roundDrifting : State := ofAgr (fun a => { a with rows := drifting }) (at_ 0 .agreed roundAlone)

theorem witness_RoundEndIsTaken :
    (roundAlone.running = true ∧ roundAlone.reached roundAlone.agr.nextRound = true ∧
      (findRound roundAlone.cfg roundAlone.clock.state 0 roundAlone.agr.rows).sorted = [⟨3, 0⟩]) ∧
    (roundOf2.running = true ∧ roundOf2.reached roundOf2.agr.nextRound = true ∧
      (findRound roundOf2.cfg roundOf2.clock.state 0 roundOf2.agr.rows).sorted = [⟨3, 0⟩, ⟨5, 1200⟩]) ∧
    (let sorted := (findRound roundDrifting.cfg .agreed 0 drifting).sorted
     sorted.length = 6 ∧ (⟨12, 7000000⟩ : Candidate) ∈ sorted ∧ (∀ x ∈ (sorted.drop 1).take 4, x.station ≠ 12) ∧
      roundDrifting.cfg.exclusion < (7000000 - midpoint sorted).natAbs) ∧
    (roundAlone.line.state = .silent ∧
      (ofLine (fun l => { l with state := .stuck, ret := some (.silent, 1) }) roundAlone).line.state = .stuck) ∧
    ({ liveRow with fresh := false, age := 15 } : Row).state ≠ .empty ∧
    ({ liveRow with state := .excluded, excludedFor := 1 } : Row).excludedFor - 1 = 0 ∧
    (at_ 0 .referenced roundAlone).clock.state = .referenced ∧
    -- AGREED with two candidates 1,200 ns apart does not step; FREE does
    (roundOf2.clock.state = .agreed ∧ ¬ 500000 * roundOf2.cfg.period < (600 : Int).natAbs ∧
      midpoint (findRound roundOf2.cfg .agreed 0 roundOf2.agr.rows).sorted = 600) ∧
    ((at_ 0 .free roundOf2).clock.state = .free ∧ roundOf2.cfg.period ∈ [2, 4, 8, 16] ∧
      roundOf2.agr.nextRound < 4294967296000000000 ∧ (roundEnd (at_ 0 .free roundOf2)).reading < 4294967296000000000 ∧
      (roundEnd (at_ 0 .free roundOf2)).agr.nextRound ≠ 0) := by decide +kernel

/-- The eighth discard excludes station 12 for 32 round ends, and the line's second count begins ACTIVE. -/
theorem test_round_end :
    (let t := roundEnd roundDrifting
     (t.agr.rows.map fun r => (r.station, r.state, r.excludedFor)).getLast? = some (12, .excluded, 32) ∧
      flagIsSet .peerExcluded t = true ∧ t.agr.summary = ⟨.settled, 6, 350⟩) ∧
    (roundEnd (ofLine (fun l => { l with roundCount := 1 }) roundAlone)).line.state = .active := by decide +kernel

theorem witness_RowsAgeAndAreExcluded :
    (findRound n0.cfg .free 0 []).candidate 5 = false ∧ liveRow.age ≤ 16 ∧
    ({ liveRow with state := .excluded, excludedFor := 1, age := 15, fresh := false } : Row).age ≤ 16 ∧
    ({ liveRow with station := 12, offset := 7000000 } : Row).offset = 7000000 := by decide +kernel

def markNow : State := ofAgr (fun a => { a with nextMark := 0 }) n0

theorem witness_MarkInstantHandsAMark : markNow.running = true ∧ markNow.reached markNow.agr.nextMark = true := by
  decide +kernel

/-- REFERENCED at 10 s and 100,000 ns: the largest accepted error. -/
def tracked : State := at_ 10000100000 .referenced n0

theorem witness_AcceptedPulseIsTracked :
    tracked.running = true ∧ tracked.clock.state = .referenced ∧ isEarly tracked.reading tracked.ref.lastPulse = false ∧
    pulseError tracked.reading = 100000 ∧
    labelDifference (pairedSecond tracked.reading tracked.ref.label) (pulseSecond tracked.reading) = 0 ∧
    ((4294967295 : Nat) < 4294967296 ∧ (499999999 : Nat) < 500000000 ∧ (500000000 : Nat) < 1000000000 ∧
      (0 : Nat) < 4294967296) := by
  decide +kernel

/-- A label 100 ms and 950 ms before the capture pairs, one nanosecond less or more does not; a pulse 500 ms after the
last is not early (R42, R47). -/
theorem test_pairing_bounds :
    pairedSecond 10000000000 (some ⟨12, 9900000000⟩) = some 12 ∧
    pairedSecond 10000000000 (some ⟨12, 9900000001⟩) = none ∧
    pairedSecond 10000000000 (some ⟨12, 9050000000⟩) = some 12 ∧
    pairedSecond 10000000000 (some ⟨12, 9049999999⟩) = none ∧
    isEarly 500000000 (some 0) = false ∧ isEarly 499999999 (some 0) = true := by decide +kernel

/-- The same pulse with a label of second 12 that came 100 ms before, and the record of the same difference. -/
def mislabelled : State :=
  ofRef (fun r => { r with label := some ⟨12, 9900100000⟩, mismatch := some 2 }) tracked

theorem witness_SecondMismatchStepsTheLabel :
    mislabelled.running = true ∧ isEarly mislabelled.reading mislabelled.ref.lastPulse = false ∧
    labelDifference (pairedSecond mislabelled.reading mislabelled.ref.label) (pulseSecond mislabelled.reading) = 2 ∧
    mislabelled.ref.mismatch = some 2 := by decide +kernel

/-- An error of 100,001 ns is rejected; the loss state has its deadline reached. -/
theorem witness_ThirdMissLosesTheReference :
    100000 < (pulseError (at_ 10000100001 .referenced n0).reading).natAbs ∧
    (at_ 10000100001 .referenced n0).ref.missCount < 2 ∧
    (lossNear.running = true ∧ lossNear.clock.state = .referenced ∧ lossNear.ref.deadline = some 0 ∧
      lossNear.reached 0 = true ∧ 2 ≤ lossNear.ref.missCount ∧
      isEarly lossNear.reading lossNear.ref.lastPulse = true) := by decide +kernel

/-- Outside REFERENCED with a deadline reached; and with a run of three whose error stays within 1 ms. -/
def acquiring (count : Nat) (previous : Option Int) : State :=
  ofRef (fun r => { r with acqCount := count, prevError := previous, deadline := some 10000000000 })
    (at_ 10000500000 .free n0)

theorem witness_AcquisitionPulsesAreCounted :
    (acquiring 3 none).running = true ∧ (acquiring 3 none).clock.state ≠ .referenced ∧
    (acquiring 3 none).ref.prevError = none ∧ (acquiring 2 (some 0)).ref.acqCount < 3 ∧
    (acquiring 0 none).ref.deadline = some 10000000000 ∧ (acquiring 0 none).reached 10000000000 = true := by
  decide +kernel

theorem witness_FourthPulseAcquires :
    (acquiring 3 (some (-500000))).running = true ∧ (acquiring 3 (some (-500000))).clock.state ≠ .referenced ∧
    (pulseError (acquiring 3 (some (-500000))).reading - (-500000)).natAbs ≤ 1000000 ∧
    isEarly (acquiring 3 (some (-500000))).reading (acquiring 3 (some (-500000))).ref.lastPulse = false ∧
    3 ≤ (acquiring 3 (some (-500000))).ref.acqCount := by decide +kernel

def charBegun (s : State) : State := ofRef (fun r => { r with charBegun := true }) s

theorem witness_LabelsAreAssembled :
    (n0.ref.labelRx = .waiting ∧ (1750000123 : Nat) < 4294967296 ∧
      ([0xA3#8] ++ leBytes 4 1750000123 ++ [0xCB#8]).foldl (· + ·) 0#8 = 0#8 ∧
      ([0xA3#8] ++ leBytes 4 1750000123 ++ [0xCC#8]).foldl (· + ·) 0#8 ≠ 0#8) ∧
    (n0.running = true ∧ (charBegun n0).ref.charBegun = true ∧ n0.ref.charBegun = false ∧ n0.ref.pinLow = false ∧
      (ofRef (fun r => { r with labelRx := .assembling [0xA3] 0 }) n0).ref.labelRx = .assembling [0xA3] 0) ∧
    (5000000 < diff (at_ 5000001 .free n0).reading 0 ∧ ¬ 5000000 < diff (at_ 5000000 .free n0).reading 0) ∧
    later (at_ 950000001 .free n0).reading (plus 0 950000000) = true := by decide +kernel

/-- A gap of 5 ms and 1 ns before the start bit abandons the message, and one of 5 ms does not; LABEL_GAP leaves a
message whose next character has begun (R46). -/
theorem test_label_gap :
    let low : TickPins := ⟨true, true, false, true⟩
    let message (reading : Nat) : State :=
      ofRef (fun r => { r with labelRx := .assembling [0xA3] 0 }) (at_ reading .free n0)
    (runTick low (message 5000001)).ref.labelRx = .waiting ∧
    (runTick low (message 5000000)).ref.labelRx = .assembling [0xA3] 0 ∧
    (runTick low (message 5000000)).ref.charBegun = true ∧
    gapDue (message 5000001) = true ∧ gapDue (charBegun (message 6000000)) = false := by decide +kernel

/-! ### The line -/

def activeReady : State := ofLine (fun l => { l with state := .active, ready := true }) n0

theorem witness_ReceptionsBeginAndEnd :
    ((ofLine (fun l => { l with idleRun := 600 }) n0).running = true ∧ n0.line.ready = false ∧
      n0.line.reception = none ∧ n0.line.readyFrom ≤ n0.tick ∧ n0.line.idleRun < 600 ∧
      n0.tick < (ofLine (fun l => { l with idleRun := 600, readyFrom := 1 }) n0).line.readyFrom) ∧
    activeReady.line.ready = true ∧
    ({ markIn 2 with framing := true } : Reception).framing = true ∧
    ({ markIn 2 with chars := [0xC4] } : Reception).chars = 0xC4#8 :: [] ∧
    natAt 3 1 ({ markIn 2 with chars := [0xC5, 1, 5, 201] } : Reception).chars = 201 ∧
    (400 < (ofLine (fun l => { l with idleRun := 401 }) n0).line.idleRun ∧
      ({ markIn 2 with chars := [0xC5, 1, 5] } : Reception).chars.length < 4) ∧
    (({ markIn 2 with chars := [0xC5, 1, 5, 0, 0, 0] } : Reception).whole = true ∧
      (crc (bytesAt 1 3 [0xC5, 1, 5, 0, 0, 0])).toNat ≠ natAt 4 2 [0xC5, 1, 5, 0, 0, 0]) := by decide +kernel

/-- Cut off by a gap of 401 ticks, the receiver stays HUNTING until 600 idle ticks have passed after that (R61). -/
theorem test_ready_after_a_gap :
    let s : State := { ofLine (fun l => { l with
      idleRun := 401, reception := some { markIn 2 with chars := [0xC5, 1, 5] } }) n0 with tick := 1000 }
    let after (ticks : Nat) (t : State) : State :=
      { ofLine (fun l => { l with idleRun := l.idleRun + ticks }) t with tick := t.tick + ticks }
    let t : State := match exec .receptionTruncated s with | .next t => t | _ => s
    t.line.reception = none ∧ readyDue (after 199 t) = false ∧ readyDue (after 599 t) = false ∧
    readyDue (after 600 t) = true := by decide +kernel

theorem witness_DuplicatesMuteTheNode :
    (Heard (frameIn 3 8 [1]) (hears (frameIn 3 8 [1]) n0) ∧
      ((Instr.clearReceived, kindOf (frameIn 3 8 [1])) ∈ receivedKinds) ∧ senderOf (frameIn 3 8 [1]) = n0.cfg.station) ∧
    (Heard (frameIn 5 9 []) (hears (frameIn 5 9 []) n0) ∧
      kindOf (frameIn 5 9 []) ∉ [1#8, 2#8, 3#8, 4#8, 5#8, 6#8, 7#8, 8#8] ∧
      senderOf (frameIn 5 9 []) ≠ n0.cfg.station) := by unfold Heard; decide +kernel

/-- A BLOCK of one OWN record of station 5, a scalar reading 49,999,551 pT of second 77. -/
def scalarRecord : Record :=
  { station := 5, role := .vector, seconds := 77, millis := 0, timebase := .agreed, flags := RecordFlags.noFlags,
    body := .own { value := ⟨some 49999551, none, none⟩, valid := ⟨10, 0, 0⟩, temperature := some 7000 } }

def blockIn (markers : Byte) : Reception := frameIn 5 2 (markers :: scalarRecord.bytes)
def listens : State := ofCfg (fun c => { c with listen := 0x20#16 }) n0

/-- The partner's record with its second in the buffer. -/
def partnerHeard : State :=
  { ofCfg (fun c => { c with partner := some 5, listen := 0x20#16 }) n0 with corr := ⟨[(77, 49993799)], 2⟩ }

/-- A BLOCK of the partner, a SCALAR node, with one such record. -/
def partnerRecord : List Byte := { scalarRecord with role := .scalar }.bytes
def partnerBlock : Reception := { markIn 2 with chars := sentChars 5 .scalar 2 33 (0 :: partnerRecord) }

theorem witness_BlockReceivedIsStaged :
    (Heard (blockIn 1) (hears (blockIn 1) listens) ∧ kindOf (blockIn 1) = 2#8 ∧
      ((payloadOf (blockIn 1)).getD 0 0).getLsbD 0 = true) ∧
    (Heard (blockIn 0) (hears (blockIn 0) listens) ∧ listens.cfg.listen.getLsbD (senderOf (blockIn 0)) = true ∧
      ((payloadOf (blockIn 0)).getD 0 0).getLsbD 0 = false ∧ (payloadOf (blockIn 0)).length = 33 ∧
      listens.cfg.partner ≠ some (senderOf (blockIn 0)) ∧ listens.ring.records.length + 6 ≤ 16384) ∧
    (partnerHeard.cfg.role = .vector ∧ partnerHeard.cfg.partner = some 5 ∧ scalarRecord.flags.disturbed = false ∧
      partnerHeard.corr.recentF.find? (fun e => decide (e.1 = 77)) = some (77, 49993799)) ∧
    (Heard partnerBlock (hears partnerBlock partnerHeard) ∧ kindOf partnerBlock = 2#8 ∧
      senderOf partnerBlock ≠ partnerHeard.cfg.station ∧ (payloadOf partnerBlock).length = 33 ∧
      partnerHeard.cfg.listen.getLsbD (senderOf partnerBlock) = true ∧
      partnerHeard.cfg.partner = some (senderOf partnerBlock) ∧ partnerHeard.ring.records.length + 12 ≤ 16384) ∧
    ((partnerHeard.cfg.role ≠ .vector ∨ scalarRecord.role ≠ .scalar) ∧ scalarRecord.bytes.length = 32) := by
  unfold Heard; decide +kernel

/-- Two records of the partner commit PEER, CHECK, PEER, CHECK in turn, and the second difference beyond 5,000 pT ends a
run of three: DELTA_F (R143, R144, R154). -/
theorem test_partner_block :
    let t := takeBlock ⟨2, 5, .scalar, 0 :: partnerRecord ++ partnerRecord⟩
      { partnerHeard with corr := ⟨[(77, 49993799)], 1⟩ }
    t.ring.records.map (fun r => (r.bytes.getD 0 0, r.seconds)) =
      n0.ring.records.map (fun r => (r.bytes.getD 0 0, r.seconds)) ++ [(0x21, 77), (0x02, 77), (0x21, 77), (0x02, 77)] ∧
    t.corr.runCount = 3 ∧ flagIsSet .deltaF t = true := by decide +kernel

/-- Milliseconds above 999, a value above 400,000,000 pT and a value with no sample are discarded (R153). -/
theorem test_discards :
    let read (r : Record) : Option Record := peerRecord 5 .vector r.bytes
    let holding (v : Int) (n : Nat) : Record :=
      { scalarRecord with body := .own { value := ⟨some v, none, none⟩, valid := ⟨n, 0, 0⟩, temperature := none } }
    (read scalarRecord).isSome = true ∧ (read { scalarRecord with millis := 1000 }).isSome = false ∧
    (read (holding 400000000 1)).isSome = true ∧ (read (holding 400000001 1)).isSome = false ∧
    (read (holding 7 0)).isSome = false ∧ (read (holding 7 11)).isSome = false := by decide +kernel

/-- An ASK of this node in the window queue. -/
def ownAsk (inAttempt : Bool) : Queued :=
  { frame := .ask ⟨3, 0⟩ .compStep 200 8#16, failures := 0, inAttempt := inAttempt }

theorem witness_AttemptStartsInOrder :
    (activeReady.running = true ∧ activeReady.line.state = .active ∧ activeReady.line.ready = true ∧
      activeReady.line.backoff = none ∧ activeReady.line.attempt = none) ∧
    (ofLine (fun l => { l with queue := [ownAsk false] }) activeReady).line.queue = ownAsk false :: [] ∧
    (activeReady.line.queue = [] ∧ activeReady.line.markSlot.full = false ∧
      (ofLine (fun l => { l with stateSlot := Slot.empty }) activeReady).line.stateSlot.full = false ∧
      activeReady.ring.bank0.state ≠ .pending ∧ activeReady.ring.scan = none) := by decide +kernel

/-- A free node just started, with the records and rows of none: its STATE by the table of R195. -/
theorem test_state_payload : (statePayload n0).length = 36 ∧
    (statePayload n0).take 7 = [0, 0, 0, 0, 5, 16, 0] := by decide +kernel

/-- An attempt whose payload is fixed, read back whole. -/
def sending (item : Item) (kind : Byte) (payload : List Byte) : Attempt :=
  { Attempt.begun item kind payload.length payload with lead := some ⟨0, 0⟩, delay := 80 }

def readBack (a : Attempt) (chars : List Byte) (s : State) : State :=
  ofLine (fun l => { l with
    attempt := some a, queue := [ownAsk true]
    reception := some { capture := ⟨0, 0⟩, leadTick := 0, own := true, chars := chars, framing := false } })
    (ofWin (fun w => { w with
      leadCap := some 0
      own := { w.own with state := .asking, cause := .compStep ⟨true, false, false⟩, seq := 1 } }) s)

def askAttempt : Attempt := sending .window 4 [3, 2, 0, 80, 0, 200, 0, 8, 0]

/-- A ring with a full bank waiting beside the one being sent, and a scan with a reply or none. -/
def bankWaits (s : State) : State :=
  ofRing (fun g => { g with
    bank0 := { state := .filling, records := List.replicate 4 scalarRecord }, bank1 := { state := .sending, records := [] } })
    s

def scanOf (reply : Option Reply) : Scan :=
  { first := 77, count := 1, nextRecord := some 0, endRecord := some 0, collected := 0, notHeld := false, gap := false
    endRetried := false, reply := reply }

def scans (reply : Option Reply) (s : State) : State := ofRing (fun g => { g with scan := some (scanOf reply) }) s

theorem witness_SentFrameLeaves :
    let s := readBack askAttempt (sentChars 3 .vector 4 9 askAttempt.payload) activeReady
    s.running = true ∧ s.line.attempt = some askAttempt ∧ askAttempt.payload.length = askAttempt.length ∧
    s.line.reception.map (·.chars) = some (sentChars s.cfg.station s.cfg.role 4 9 askAttempt.payload) ∧
    askAttempt.item = .window ∧ s.line.queue = ownAsk true :: [] ∧ (ownAsk true).inAttempt = true ∧
    s.win.leadCap = some 0 ∧
    (sending .mark 1 (List.replicate 9 0)).item = .mark ∧ (sending (.bank true) 2 [0]).item = .bank true ∧
    ¬ (s.ring.bank0.state = .filling ∧ s.cfg.bankLength ≤ s.ring.bank0.records.length) ∧
    ((bankWaits s).ring.bank0.state = .filling ∧ s.cfg.bankLength ≤ (bankWaits s).ring.bank0.records.length) ∧
    (sending (.reply true) 2 [1]).item = .reply true ∧ (scans none s).ring.scan = some (scanOf none) ∧
    (scans (some ⟨true, false, false, []⟩) s).ring.scan = some (scanOf (some ⟨true, false, false, []⟩)) := by
  decide +kernel

theorem witness_CollisionBacksOff :
    let s := readBack askAttempt [0xC5, 5] activeReady
    s.running = true ∧ s.line.attempt = some askAttempt ∧
    [0xC5#8, 5#8] ≠ (sentChars s.cfg.station s.cfg.role 4 9 askAttempt.payload).take 2 ∧
    s.line.queue = ownAsk true :: [] ∧ (ownAsk true).failures < 7 ∧ s.line.markSlot.failures < 7 ∧
    s.line.bankFailures < 7 ∧ s.line.replyFailures < 7 ∧
    7 ≤ (ofLine (fun l => { l with markSlot := ⟨true, 7, true⟩ }) s).line.markSlot.failures ∧
    ¬ (s.ring.bank1.state = .filling ∧ s.cfg.bankLength ≤ s.ring.bank1.records.length) ∧
    ((bankWaits s).ring.bank0.state = .filling ∧ s.cfg.bankLength ≤ (bankWaits s).ring.bank0.records.length) ∧
    (let q := deferFrame false true 7
     (ofLine (fun l => { l with queue := [q] }) s).line.queue = q :: [] ∧ q.inAttempt = true ∧ 7 ≤ q.failures) ∧
    (0 + 500000 ≤ ({ s with tick := 500000 } : State).tick ∧ ¬ 0 + 500000 ≤ ({ s with tick := 499999 } : State).tick) := by
  decide +kernel

theorem witness_LineCountsEnd :
    n0.running = true ∧ (ofLine (fun l => { l with jam := some 0 }) n0).line.jam = some 0 ∧
    (ofLine (fun l => { l with backoff := some 0 }) activeReady).line.backoff = some 0 ∧
    (n0.line.state ≠ .stuck ∧ 500000 ≤ (ofLine (fun l => { l with stuckTimer := 500000 }) n0).line.stuckTimer) ∧
    (let s := ofLine (fun l => { l with state := .stuck, ret := some (.active, 0), idleRun := 10000 }) n0
     s.line.state = .stuck ∧ s.line.ret = some (.active, 0) ∧ 10000 ≤ s.line.idleRun) := by decide +kernel

/-! ### Windows -/

/-- An ASK of station 5, sequence 1, POLARIZE, affecting station 3; forced or not, its delay and duration in ms. -/
def askIn (forced : Byte) (delay duration : Nat) (affect : Byte) : Reception :=
  frameIn 5 4 ([0x15#8, 1#8, forced] ++ leBytes 2 delay ++ leBytes 2 duration ++ [affect, 0#8])

/-- An own COMP_STEP window, asked and sent, from 80 ms to 280 ms. -/
def waits (forced : Bool) (s : State) : State :=
  ofOwn (fun o => { o with
    state := .waiting, cause := .compStep ⟨true, false, false⟩, seq := 1, forced := forced, start := some 80000000
    finish := some 280000000, responseEnd := some 0 }) s

def entryOf (station finish : Nat) : Entry :=
  { id := ⟨station, 0⟩, cls := .compStep, start := 0, finish := finish, forced := false }

def fullList (s : State) : State :=
  ofWin (fun w => { w with list := (List.range 8).map fun i => entryOf (i + 6) 9000000000 }) s

/-- An own protected interval from 80 ms to 280 ms. -/
def protected_ (s : State) : State := ofWin (fun w => { w with ownProt := some ⟨80000000, 280000000, false⟩ }) s

theorem witness_AskIsDecided :
    (Heard (askIn 0 80 200 0) (hears (askIn 0 80 200 0) n0) ∧ kindOf (askIn 0 80 200 0) = 4#8 ∧
      (BitVec.ofNat 16 (natAt 7 2 (payloadOf (askIn 0 80 200 0)))).getLsbD n0.cfg.station = false) ∧
    (Heard (askIn 1 0 65535 8) (hears (askIn 1 0 65535 8) n0) ∧ (payloadOf (askIn 1 0 65535 8)).length = 9 ∧
      natAt 1 1 (payloadOf (askIn 1 0 65535 8)) ∈ [1, 2] ∧ natAt 5 2 (payloadOf (askIn 1 0 65535 8)) ≠ 0 ∧
      natAt 2 1 (payloadOf (askIn 1 0 65535 8)) ≠ 0 ∧ (hears (askIn 1 0 65535 8) n0).win.leadCap = some 0) ∧
    (natAt 2 1 (payloadOf (askIn 0 80 200 8)) = 0 ∧ (waits true n0).win.own.forced = true ∧
      later 280000000 (plus 80000000 (-20000000)) = true ∧ later (plus 280000000 20000000) 80000000 = true) ∧
    ((waits false n0).win.own.forced = false ∧ ¬ (5 ≤ n0.cfg.station) ∧
      (2 : Nat) ≤ (waits false n0).cfg.station) ∧
    ((protected_ n0).win.ownProt.toList ++ (protected_ n0).win.counting = ⟨80000000, 280000000, false⟩ :: []) ∧
    (8 ≤ (fullList n0).win.list.length ∧ n0.win.list.length < 8 ∧ n0.line.queue.length < 4) ∧
    -- an entry of the ASK's window id, with and without a held window to take its place
    (let e : Entry := { entryOf 5 9000000000 with id := ⟨5, 1⟩ }
     let s := ofWin (fun w => { w with list := [e], held := [entryOf 7 9000000000] }) n0
     e ∈ s.win.list ∧ (∀ x ∈ n0.win.list, x.id ≠ e.id) ∧
      (s.win.held.filter fun x => decide (x.id ≠ e.id)).filter (fun x => later x.finish s.reading) =
        entryOf 7 9000000000 :: [] ∧
      (s.win.list.filter fun x => decide (x.id ≠ e.id)).length < 8) := by
  unfold Heard; decide +kernel

/-- A refused ASK whose DEFER makes a full queue give up another: the queue stays at four, its oldest idle DEFER gone
(R71, R95). -/
theorem test_refusal_with_a_full_queue :
    let d := deferFrame false false 0
    let s := ofLine (fun l => { l with queue := [d, d, d, d] })
      (hears (askIn 0 80 200 8) (fullList n0))
    let t : State := match exec .askReceived s with | .next t => t | _ => s
    t.line.queue.length = 4 ∧ t.line.queue.take 3 = [d, d, d] ∧ t.line.queue ≠ s.line.queue := by decide +kernel

def deferIn (id : Byte) : Reception := frameIn 5 5 [id, 100, 0]

theorem witness_OwnAskIsRefused :
    (Heard (deferIn 0x13) (hears (deferIn 0x13) (waits false n0)) ∧ kindOf (deferIn 0x13) = 5#8 ∧
      ((payloadOf (deferIn 0x13)).getD 0 0).toNat % 16 = 3 ∧ ((payloadOf (deferIn 0x13)).getD 0 0).toNat / 16 = 1) ∧
    (((payloadOf (deferIn 0x03)).getD 0 0).toNat / 16 = ((waits false n0).win.own.seq + 15) % 16 ∧
      (waits false n0).win.own.state = .waiting ∧ (waits false n0).win.own.forced = false) ∧
    ((waits true n0).win.own.forced = true ∧ (waits false n0).win.own.cause = .compStep ⟨true, false, false⟩ ∧
      (waits false n0).line.queue.length < 4) ∧
    (ofOwn (fun o => { o with cause := .polarize 80000000 }) (waits false n0)).win.own.cause = .polarize 80000000 := by
  unfold Heard; decide +kernel

/-- DEFERRED with the wait end reached; and with a queue of four whose first is a pending WITHDRAW. -/
def deferredNow : State :=
  ofOwn (fun o => { o with state := .deferred, cause := .compStep ⟨true, false, false⟩, waitEnd := some 0, seq := 15 }) n0

def queuedWithdraw : Queued := { frame := .withdraw ⟨3, 2⟩ 0, failures := 0, inAttempt := false }

theorem witness_WaitEndAsksAnew :
    deferredNow.running = true ∧ deferredNow.win.own.state = .deferred ∧ deferredNow.win.waitHold = false ∧
    deferredNow.win.own.waitEnd = some 0 ∧ deferredNow.reached 0 = true ∧ deferredNow.line.queue.length < 4 ∧
    (ofLine (fun l => { l with queue := List.replicate 4 queuedWithdraw }) deferredNow).line.queue.length = 4 ∧
    queuedWithdraw.inAttempt = false := by decide +kernel

def deferDue : State :=
  { ofLine (fun l => { l with queue := [queuedWithdraw, deferFrame false false 0] }) n0 with tick := 500000 }

theorem witness_WindowsAreEntered :
    (n0.win.list.filter fun e => decide (e.id ≠ (entryOf 5 1).id)).length < 8 ∧
    (8 ≤ ((fullList n0).win.list.filter fun e => decide (e.id ≠ (entryOf 5 1).id)).length ∧
      (fullList n0).win.held.length < 4 ∧
      4 ≤ (ofWin (fun w => { w with held := List.replicate 4 (entryOf 5 1) }) (fullList n0)).win.held.length) ∧
    (deferDue.running = true ∧ deferDue.line.queue = [queuedWithdraw] ++ deferFrame false false 0 :: [] ∧
      0 + 500000 ≤ deferDue.tick ∧ later 9000000000 deferDue.reading = true) := by decide +kernel

/-- Four frames wait: the oldest idle DEFER gives way, or with none the oldest idle WITHDRAW. -/
theorem witness_WindowsAreEntered_full :
    let d := deferFrame false false 0
    let full : List Queued := [queuedWithdraw, ownAsk true, d, d]
    let none' : List Queued := [ownAsk true, queuedWithdraw, queuedWithdraw, queuedWithdraw]
    (4 ≤ full.length ∧ full = [queuedWithdraw, ownAsk true] ++ d :: [d]) ∧
    (4 ≤ none'.length ∧ none' = [ownAsk true] ++ queuedWithdraw :: [queuedWithdraw, queuedWithdraw]) := by decide +kernel

/-- A window that ends within 20 ms of the protected interval meets it; one that ends 20 ms before it does not (R92). -/
theorem test_markOverlapped :
    (let t := markOverlapped { entryOf 5 80000001 with start := 0 } (protected_ n0)
     t.win.ownProt.map (·.mark) = some true ∧ flagIsSet .forcedInto t = true) ∧
    markOverlapped { entryOf 5 60000000 with start := 0 } (protected_ n0) = protected_ n0 := by decide +kernel

def withdrawIn : Reception := frameIn 5 6 [0x05]

/-- The list's first entry is at its end, and a window is held. -/
def entryOver : State :=
  ofWin (fun w => { w with list := [entryOf 5 0, entryOf 6 9000000000], held := [entryOf 7 9000000000] }) n0

theorem witness_WindowsLeaveTheList :
    (Heard withdrawIn (hears withdrawIn n0) ∧ kindOf withdrawIn = 6#8 ∧ (payloadOf withdrawIn).length = 1 ∧
      n0.win.held = []) ∧
    (entryOver.win.list = [] ++ entryOf 5 0 :: [entryOf 6 9000000000] ∧ entryOver.reached (entryOf 5 0).finish = true ∧
      entryOver.win.held.filter (fun x => later x.finish entryOver.reading) = entryOf 7 9000000000 :: []) ∧
    (let s := ofWin (fun w => { w with held := [entryOf 7 1, entryOf 8 0], blankAllEnd := some 0 }) n0
     s.win.held = [entryOf 7 1] ++ entryOf 8 0 :: [] ∧ s.reached 1 = false ∧ s.reached 0 = true ∧
      s.win.blankAllEnd = some 0) := by unfold Heard; decide +kernel

/-- WAITING at its response end, as COMP_STEP and as POLARIZE. -/
def waitsPolarize : State := ofOwn (fun o => { o with cause := .polarize 80000000 }) (waits false n1)

theorem witness_ResponseEndGrants :
    ((waits false n0).running = true ∧ (waits false n0).win.own.state = .waiting ∧
      (waits false n0).win.own.responseEnd = some 0 ∧ (waits false n0).reached 0 = true ∧
      (waits false n0).win.own.start = some 80000000 ∧ (waits false n0).win.own.finish = some 280000000 ∧
      (waits false n0).win.own.cause = .compStep ⟨true, false, false⟩) ∧
    waitsPolarize.win.own.cause = .polarize 80000000 ∧ waitsPolarize.win.own.state = .waiting := by decide +kernel

/-- The own window at its start and at its end, both at 0. -/
def ownAt (state : OwnState) (cause : Cause) (next : Triple Bool) (s : State) : State :=
  ofOwn (fun o => { o with state := state, cause := cause, start := some 0, finish := some 0, nextComps := next }) s

def stepping : State :=
  ofAcq (fun a => { a with pendingDir := ⟨some .up, some .down, none⟩, steps := ⟨31, -31, 0⟩ })
    (ownAt .granted (.compStep ⟨true, true, false⟩) ⟨false, false, false⟩ n0)

theorem witness_OwnWindowOpensAndEnds :
    (stepping.running = true ∧ stepping.win.own.state = .granted ∧ stepping.reached 0 = true ∧
      stepping.line.queue = [] ∧ stepping.ring.records.length + 3 ≤ 16384) ∧
    (ownAt .granted (.polarize 0) ⟨false, false, false⟩ n1).acq.measuring = none ∧
    n0.win.own.state ≠ .granted ∧
    ((ownAt .opened (.polarize 0) ⟨false, false, false⟩ n1).win.own.state = .opened ∧
      (ownAt .opened (.polarize 0) ⟨false, false, false⟩ n1).reached 0 = true) ∧
    (ownAt .opened (.compStep ⟨true, false, false⟩) ⟨false, false, true⟩ n0).win.own.nextComps ≠ ⟨false, false, false⟩ ∧
    n0.line.queue.length < 4 := by decide +kernel

/-- A cycle still COUNTING as the next window opens; its tag is 250 ms. -/
def stillCounting (last : Option Nat) : State :=
  ofAcq (fun a => { a with measuring := some ⟨0, .counting 0 500000000⟩, lastTag := last })
    (ownAt .granted (.polarize 0) ⟨false, false, false⟩ n1)

theorem witness_OwnWindowOpensAndEnds_cutOff :
    (stillCounting none).acq.measuring = some ⟨0, .counting 0 500000000⟩ ∧ (stillCounting none).acq.lastTag = none ∧
    later 250000000 249000000 = true ∧ (stillCounting (some 250000000)).acq.lastTag = some 250000000 ∧
    later 250000000 250000000 = false ∧
    (n0.win.own.state ≠ .granted ∧ (ofLine (fun l => { l with queue := [queuedWithdraw] }) n0).running = true ∧
      n0.reached 0 = true) := by decide +kernel

/-- The phase of the cycle cut off leaves at its own end, though the newer cycle still counts (R92, R119). -/
theorem test_countEnd_drops_cut_off :
    (dropPhases (ofWin (fun w => { w with counting := [⟨0, 1000000000, false⟩, ⟨1, 2000000000, false⟩] })
      (at_ 1000000000 .free n1))).win.counting = [⟨1, 2000000000, false⟩] := by decide +kernel

/-! ### The sensor side -/

def triggerNow : State := ofAcq (fun a => { a with nextTrigger := 0, nextScan := 125000000 }) (at_ 125000000 .free n0)

/-- A probe's conversion under way. -/
def probing (serial : Nat) : Conversion :=
  { id := serial, job := .probe 0, outstanding := true, deadline := 0, nextPoll := some 0, readAsked := false }

theorem witness_TriggersAndScansStartConversions :
    (triggerNow.running = true ∧ triggerNow.acq.scanHold = false ∧ triggerNow.cfg.role = .vector ∧
      triggerNow.reached triggerNow.acq.nextTrigger = true ∧ triggerNow.acq.conversions.fc0 = none ∧
      triggerNow.acq.conversions.fc1 = none ∧ triggerNow.acq.conversions.fc2 = none ∧
      triggerNow.acq.lastClosed = none ∧ triggerNow.acq.gathering = none) ∧
    ¬ (0 < secondsDifference (plus 0 500000000 / 1000000000) 0) ∧
    (triggerNow.reached triggerNow.acq.nextScan = true ∧ triggerNow.acq.conversions.tc = none ∧
      triggerNow.acq.probes[0]? = some { status := .void, count := none, lastGood := none }) := by decide +kernel

/-- A transfer of a kind in progress since tick 0, its conversion under way, at a tick. -/
def transferring (conv : Converter) (kind : TransferKind) (v : Conversion) (tick : Nat) : State :=
  { ofAcq (fun a => { a with
      port := some (⟨conv, kind, 0, v.id⟩, 0), conversions := a.conversions.set conv (some v) }) n0 with
    tick := tick }

theorem witness_ConversionsRun :
    (n0.acq.port = none ∧
      (ofAcq (fun a => { a with portQueue := [⟨.tc, .start, 0, 0⟩] }) n0).acq.portQueue = ⟨.tc, .start, 0, 0⟩ :: []) ∧
    (let s := transferring .tc .start (probing 7) 40
     s.acq.port = some (⟨.tc, .start, 0, 7⟩, 0) ∧ 0 + 40 ≤ s.tick ∧ s.acq.conversions.get .tc = some (probing 7)) ∧
    ((probing 7).outstanding = true ∧ (probing 7).readAsked = false ∧ (probing 7).nextPoll = some 0) ∧
    (let s := transferring .tc .poll (probing 7) 80
     s.acq.port = some (⟨.tc, .poll, 0, 7⟩, 0) ∧ 0 + 80 ≤ s.tick ∧ byteTaken 0 (levelsOf [0x01]) % 2 = 1 ∧
      byteTaken 0 (levelsOf [0xFE]) % 2 = 0 ∧ s.selected ≠ none ∧ n0.selected = none) ∧
    (ofLoader (fun l => { l with phase := .readingImage }) State.reset).loader.phase = .readingImage ∧
    (State.reset.running = false ∧ State.reset.loader.phase ≠ .readingImage) ∧ [0x13#8][0]? = some 0x13#8 := by
  decide +kernel

/-- The bytes the node sends (R199): a start at probe 3, most significant bit first on its converter's select, and the
image read's command and address on CE. -/
theorem test_bytes_sent :
    (⟨.tc, .start, 3, 0⟩ : Transfer).sends = [0x13] ∧
    portBits [0x13] = [false, false, false, true, false, false, true, true] ∧
    (transferring .tc .start (probing 7) 0).selected = some (.converter .tc) ∧
    (ofLoader (fun l => { l with phase := .readingImage }) State.reset).selected = some .ce ∧
    (ofLoader (fun l => { l with phase := .readingImage }) State.reset).portSends = [0x03, 0x00, 0x00] := by
  decide +kernel

/-- The clock idles low, and a byte is taken at its rising edges alone, most significant bit first; levels not given
read high (R199). -/
theorem test_bytes_taken :
    (List.range 4).map (transferring .tc .start (probing 7) 0).sck = [false, true, false, true] ∧
    takenBytes 1 [true, false, false, true, false, true, false, true, false, true, false, true, true, false, true, false] =
      [0x83] ∧
    takenBytes 1 [false, false] = [0x7F] ∧ takenBytes 2 (levelsOf [0x13, 0xA5]) = [0x13, 0xA5] ∧
    statusReady (levelsOf [0x01]) = true ∧ statusReady (levelsOf [0xFE]) = false ∧
    fieldCount (levelsOf [0xFF, 0xFF, 0xFE]) = -2 := by decide +kernel

/-- A field conversion of X for second 1, blanked by POLARIZE alone or not at all. -/
def sampling (blanked : Bool) : Conversion :=
  { id := 4, outstanding := true, deadline := 800000, nextPoll := none, readAsked := true
    job := .field .x
      { serves := .second 1, steps := 3, blanked := blanked, blankAll := false, byCompStep := false, changed := false } }

def gathers (s : State) : State :=
  ofAcq (fun a => { a with gathering := some { second := 1, acc := Triple.all Accum.empty } }) s

/-- The same sample, unblanked, serving otherwise. -/
def serving (serves : Serves) : Conversion :=
  { sampling false with
    job := .field .x
      { serves := serves, steps := 3, blanked := false, blankAll := false, byCompStep := false, changed := false } }

/-- An own COMP_STEP window outstanding in a state. -/
def busy (state : OwnState) (set : Triple Bool) (s : State) : State :=
  ofOwn (fun o => { o with state := state, cause := .compStep set }) s

theorem witness_ResultsAreTaken :
    (let s := gathers (transferring .fc0 .read (sampling false) 160)
     s.running = true ∧ s.acq.port = some (⟨.fc0, .read, 0, 4⟩, 0) ∧ 0 + 160 ≤ s.tick ∧
      s.acq.conversions.get .fc0 = some (sampling false) ∧ s.acq.pendingDir.get .x = none ∧
      s.win.own.state = .none ∧ s.line.queue.length < 4) ∧
    (countOf 0x70 0x00 0x00 = 7340032 ∧ countOf 0x70 0x00 0x01 = 7340033 ∧ countOf 0x7F 0xFF 0xFF = 8388607 ∧
      countOf 0x80 0x00 0x00 = -8388608 ∧ byteTaken 1 (levelsOf [0x70, 0x5A, 0x01]) = 0x5A) ∧
    -- the conversion has ended; an uncollected and an abandoned sample
    (transferring .fc0 .read { sampling false with id := 5 } 160).acq.conversions.get .fc1 = none ∧
    (let s := gathers (transferring .fc0 .read (serving .abandoned) 160)
     s.acq.gathering.map (·.second) = some 1 ∧ Serves.abandoned ≠ .second 1 ∧ Serves.uncollected ≠ .second 1 ∧
      s.acq.conversions.get .fc0 = some (serving .abandoned)) ∧
    -- the own record busy: a set that X joins, the components after an OPEN window, and DEFERRED
    (let s := busy .asking ⟨false, true, false⟩ (gathers (transferring .fc0 .read (sampling false) 160))
     s.acq.pendingDir.get .x = none ∧ s.win.own.state ≠ .none ∧ s.win.own.cause = .compStep ⟨false, true, false⟩) ∧
    (busy .opened ⟨false, true, false⟩ n0).win.own.state = .opened ∧
    (let s := busy .deferred ⟨true, false, false⟩ (gathers (transferring .fc0 .read (sampling false) 160))
     s.win.own.state = .deferred ∧ s.win.own.cause = .compStep ⟨true, false, false⟩ ∧ s.line.queue.length < 4) ∧
    (32 : Int) ≤ (ofAcq (fun a => { a with steps := ⟨32, 0, 0⟩ }) n0).acq.steps.get .x ∧
    (let s := transferring .tc .read (probing 7) 120
     0 + 120 ≤ s.tick ∧ s.acq.probes[0]? = some { status := .void, count := none, lastGood := none } ∧
      256 * byteTaken 0 (levelsOf [0xFF, 0xFE]) + byteTaken 1 (levelsOf [0xFF, 0xFE]) = 65534 ∧
      256 * byteTaken 0 [] + byteTaken 1 [] = 65535) ∧
    (let s := { gathers (transferring .fc0 .read (sampling true) 0) with tick := 800000 }
     s.acq.conversions.get .fc0 = some (sampling true) ∧ (sampling true).deadline ≤ s.tick) := by decide +kernel

/-- A near-range count that POLARIZE alone blanks is blanked and still asks for a step (R110). -/
theorem test_near_range_under_polarize :
    ∃ t, exec (.resultArrival (levelsOf [0x70, 0, 1])) (gathers (transferring .fc0 .read (sampling true) 160)) = .next t ∧
      t.acq.pendingDir.x = some .up ∧ t.acq.gathering.map (·.acc.x.blanked) = some 1 ∧ t.win.own.state = .asking :=
  ⟨_, rfl, by decide +kernel, by decide +kernel, by decide +kernel⟩

/-- A saturated report while the own ask for X is DEFERRED asks at once (R91, R111). -/
theorem test_saturated_in_deferred :
    let s := busy .deferred ⟨true, false, false⟩ (gathers (transferring .fc0 .read (sampling false) 160))
    let t : State := match exec (.resultArrival (levelsOf [0x7F, 0xFF, 0xFF])) s with | .next t => t | _ => s
    t.win.own.state = .asking ∧ t.win.own.urgent = true ∧ t.line.queue.length = 1 ∧ flagIsSet .saturated t = true ∧
    t.acq.gathering.map (·.acc.x.saturated) = some 1 := by decide +kernel

/-- Second 0 gathered, read at its closure instant. -/
def closing : State :=
  ofRing (fun g => { g with bank0 := { state := .filling, records := [] } })
    (ofAcq (fun a => { a with gathering := some { second := 0, acc := Triple.all Accum.empty } })
      (at_ 540000000 .free n0))

theorem witness_SecondsAreClosed :
    (closing.running = true ∧ closing.cfg.role = .vector ∧
      closing.acq.gathering = some { second := 0, acc := Triple.all Accum.empty } ∧ 1 ≤ closing.cfg.minSamples ∧
      closing.reached (plus (0 % 4294967296 * 1000000000) 540000000) = true ∧ closing.ring.records.length < 16384 ∧
      closing.ring.bank0.state = .filling ∧ closing.ring.bank0.records.length + 1 < closing.cfg.bankLength ∧
      closing.ring.bank1.state = .free) ∧
    (let s := ofRing (fun g => { g with bank0 := g.bank1, bank1 := g.bank0 }) closing
     s.ring.bank1.state = .filling ∧ s.ring.bank0.state ≠ .filling) ∧
    (let s := ofRing (fun g => { g with bank0 := g.bank1 }) closing
     s.ring.bank0.state = .free ∧ s.ring.bank0.records = [] ∧ s.ring.bank1.state ≠ .filling) ∧
    ({ Accum.empty with valid := 5 } : Accum).valid = closing.cfg.minSamples ∧
    (let p : Probe := { status := .failed, count := some 34063, lastGood := some 0 }
     p.count = some 34063 ∧ p.lastGood = some 0 ∧ 600000000000 < diff 600000000001 0 ∧ ¬ 600000000000 < diff 600000000000 0) ∧
    (closing.cfg.partner = none ∧ (ofCfg (fun c => { c with partner := some 5 }) closing).cfg.partner ≠ none) := by
  decide +kernel

def asksNow : State := ofAcq (fun a => { a with nextAsk := 0 }) n1

def counterRead : State :=
  ofAcq (fun a => { a with reading := some { openTime := 3000500400000, mark := false } })
    { transferring .sc .read { probing 9 with job := .counter } 200 with cfg := n1.cfg }

theorem witness_ScalarCycleRuns :
    (asksNow.running = true ∧ asksNow.cfg.role = .scalar ∧ asksNow.reached asksNow.acq.nextAsk = true ∧
      asksNow.win.own.state = .none ∧ asksNow.line.queue.length < 4) ∧
    ((ofOwn (fun o => { o with state := .deferred }) asksNow).win.own.state ≠ .none ∧ asksNow.acq.lastTag = none ∧
      asksNow.ring.records.length < 16384) ∧
    (counterRead.acq.port = some (⟨.sc, .read, 0, 9⟩, 0) ∧ 0 + 200 ≤ counterRead.tick ∧ counterRead.acq.lastTag = none ∧
      counterRead.acq.conversions.sc = some { probing 9 with job := .counter }) ∧
    (let s := ofAcq (fun a => { a with measuring := some ⟨0, .counting 0 0⟩ }) n1
     s.acq.measuring = some { windowEnd := 0, stage := .counting 0 0 } ∧ s.reached 0 = true ∧
      s.acq.conversions.sc = none) := by decide +kernel

theorem witness_ScalarCycleRuns_deadline :
    (counterRead.running = true ∧ counterRead.acq.reading = some { openTime := 3000500400000, mark := false } ∧
      counterRead.ring.records.length < 16384 ∧ (2000000 : Nat) ≤ ({ counterRead with tick := 2000000 } : State).tick) ∧
    (let l : Option Nat := some (3000750400000 - 3000750400000 % 1000000)
     l = some 3000750000000 ∧ later 3000750000000 3000750000000 = false ∧ later 3000750000000 3000749000000 = true) ∧
    (let s := ofAcq (fun a => { a with measuring := some ⟨0, .counting 0 1000000000⟩ }) n1
     s.acq.measuring = some ⟨0, .counting 0 1000000000⟩ ∧ s.reached 1000000000 = false) := by decide +kernel

theorem witness_TotalFieldIsTheFloorOfTheRoot :
    (400000000 : Int).natAbs ≤ 400000000 ∧ (-400000000 : Int).natAbs ≤ 400000000 ∧ n0.cfg.role = .vector ∧
    (ofCfg (fun c => { c with partner := some 5 }) n0).cfg.partner ≠ none ∧ RecordFlags.noFlags.disturbed = false := by
  decide +kernel

theorem witness_TablesAreInterpolated :
    ([] ++ ⟨1000, 1500, 250⟩ :: ⟨1500, 2300, 330⟩ :: [] : List Breakpoint).Pairwise
      (fun p q => p.temperature < q.temperature) ∧ (1000 : Int) ≤ 1000 ∧ (1499 : Int) < 1500 ∧ (999 : Int) < 1000 ∧
    ([⟨1500, 2300, 330⟩] : List Breakpoint).getLast? = some ⟨1500, 2300, 330⟩ ∧ (1500 : Int) ≤ 1500 := by decide

/-! ### Records, flags, start -/

def recallIn (target : Byte) : Reception := frameIn 5 7 ([target] ++ leBytes 4 77 ++ leBytes 2 256)

theorem witness_RecallIsAnswered :
    (Heard (recallIn 4) (hears (recallIn 4) n0) ∧ kindOf (recallIn 4) = 7#8 ∧
      natAt 0 1 (payloadOf (recallIn 4)) ≠ n0.cfg.station) ∧
    (Heard (recallIn 3) (hears (recallIn 3) n0) ∧ (payloadOf (recallIn 3)).length = 7 ∧
      natAt 0 1 (payloadOf (recallIn 3)) = n0.cfg.station ∧ (hears (recallIn 3) n0).line.attempt = none) ∧
    ((newScan 77 256 n0.ring).count ≠ 0 ∧ (newScan 77 256 n0.ring).nextRecord = some 0) ∧ (255 : Nat) < 256 ∧
    (ofLine (fun l => { l with attempt := some (sending (.reply false) 2 [1]) })
      (hears (recallIn 3) n0)).line.attempt.map (·.item) = some (.reply false) := by unfold Heard; decide +kernel

/-- First seconds half a circle before the oldest OWN record's second, one less, and one more (R2, R160); a walk past its
end record is END with what it passed. -/
theorem test_scan :
    let g : RecordRing := ⟨[scalarRecord, scalarRecord], 0, Bank.empty, Bank.empty, none⟩
    (newScan (77 + 2147483648) 1 g).notHeld = true ∧ (newScan (77 + 2147483647) 1 g).notHeld = false ∧
    (newScan (77 + 2147483649) 1 g).notHeld = true ∧ (newScan 77 1 g).notHeld = false ∧
    (walk 77 1 (some 0) g.records 0 [] 0).records = [scalarRecord] ∧
    (walk 77 1 (some 0) g.records 0 [] 0).final = true := by decide +kernel

/-- A ring of 16,384 records with a scan at its oldest. -/
def fullRing : State :=
  ofRing (fun g => { g with
    records := List.replicate 16384 scalarRecord
    scan := some (newScan 0 1 ⟨[scalarRecord], 0, Bank.empty, Bank.empty, none⟩) }) n0

theorem witness_CommitsAndOverwrites :
    n0.ring.records.length < 16384 ∧ fullRing.ring.records = scalarRecord :: List.replicate 16383 scalarRecord ∧
    16384 ≤ fullRing.ring.records.length ∧
    (newScan 0 1 ⟨[scalarRecord], 0, Bank.empty, Bank.empty, none⟩).nextRecord = some 0 :=
  ⟨by decide +kernel, rfl, Nat.le_of_eq (List.length_replicate (n := 16384) (a := scalarRecord)).symm, by decide +kernel⟩

def clearIn (mask : Byte) : Reception := frameIn 5 8 [255, 4, mask]

theorem witness_ClearReopensTheGate :
    (Heard (clearIn 1) (hears (clearIn 1) n0) ∧ kindOf (clearIn 1) = 8#8 ∧ (payloadOf (clearIn 1)).length = 3 ∧
      natAt 0 1 (payloadOf (clearIn 1)) = 255 ∧
      [Group.time, .line, .data, .window, .start][natAt 1 1 (payloadOf (clearIn 1))]? = some .start) ∧
    (n0.flag.flags.start &&& ~~~5#8 &&& n0.cfg.masks.start = 0#8) ∧
    (n0.flag.flags.start &&& ~~~1#8 &&& n0.cfg.masks.start ≠ 0#8) ∧
    4 < natAt 1 1 (payloadOf (frameIn 5 8 [255, 5, 1])) := by unfold Heard; decide +kernel

theorem witness_GatesAlarmAndStatePeriod :
    (n0.cfg.masks.get Group.time &&& Flag.mask .stepped ≠ 0#8 ∧ n0.flag.closed.get .time = false) ∧
    n0.flag.closed.get .start = true ∧ n0.flag.release = some 100000 ∧
    ({ n0 with tick := 100000 } : State).tick = 100000 ∧
    (n0.flag.stateTimer = some 600000000 ∧ n0.flag.expiryWaits = false) := by decide +kernel

/-- A closure with the period's expiry: in either order two STATEs are handed over, here behind one in an attempt's
place, so that the slot holds the second (R175). -/
theorem test_closure_with_expiry :
    let s : State := { n0 with tick := 600000000 }
    (setFlag .stepped s).flag.expiryWaits = true ∧ periodExpired (setFlag .stepped s) = true ∧
    periodExpired (periodicState (setFlag .stepped s)) = false ∧
    (setFlag .stepped (periodicState s)).flag.expiryWaits = false := by decide +kernel

/-- The two resets at the ends of their counts. -/
def supplyGood : State := ofLoader (fun l => { l with goodTicks := 65536 }) State.reset
def pinIsLow : State := ofLoader (fun l => { l with lowCount := 64, pinHigh := false }) n0
def pinHighAgain : State := ofLoader (fun l => { l with ext := true, phase := .held }) n0

theorem witness_ResetsAndReleases :
    (pinIsLow.loader.ext = false ∧ 64 ≤ pinIsLow.loader.lowCount) ∧
    (Straps.wellFormed ⟨15, 3, true⟩ = true ∧ Straps.wellFormed ⟨15, 3, false⟩ = true) ∧
    (supplyGood.loader.powerOn = true ∧ 65536 ≤ supplyGood.loader.goodTicks ∧ supplyGood.loader.ext = false) ∧
    (ofLoader (fun l => { l with ext := true }) supplyGood).loader.ext = true ∧
    (pinHighAgain.loader.ext = true ∧ pinHighAgain.loader.pinHigh = true ∧ pinHighAgain.loader.powerOn = false) := by
  decide +kernel

/-- An external reset after stage 5 finds the start steps driven, the last cause as it was and no RESET note; with the
stages to 7 taken it finds the note (R182, R184). -/
theorem test_start_abandoned :
    let s (through : Nat) : State := stagesThrough through (ofLoader (fun l => { l with lowCount := 64 }) supplyGood)
    let reset (through : Nat) : State := match exec .externalReset (s through) with | .next t => t | _ => s through
    (s 5).loader.phase = .starting (.flags false) ∧ (s 5).running = false ∧ (reset 5).ring.records.length = 0 ∧
    (reset 5).loader.phase = .held ∧ (reset 7).ring.records.length = 1 ∧ (reset 7).acq.steps = (s 7).acq.steps ∧
    (takeStage (s 5)).flag.flags.start = 5 := by decide +kernel

/-- The bytes an image's check covers, its fields all 0; and the image with its check. -/
def zeroFields : List Byte := [1#8, 0xCD#8, 0x01#8] ++ List.replicate 461 0#8
def zeroImage : List Byte := zeroFields ++ leBytes 2 (crc zeroFields).toNat

theorem zeroFields_length : zeroFields.length = 464 := by decide +kernel

theorem placed_behind (xs : List Byte) (c : BitVec 16) : placed xs.length 2 (xs ++ leBytes 2 c.toNat) = c.toNat := by
  have := c.isLt
  simp [placed, List.range_succ, leBytes]; omega

theorem zeroImage_length : zeroImage.length = 466 := by
  rw [zeroImage, List.length_append, zeroFields_length]; rfl

theorem zeroImage_taken :
    ((List.range 466).map fun i => BitVec.ofNat 8 (byteTaken i (levelsOf zeroImage))) = zeroImage := by
  rw [← takenBytes_eq, ← zeroImage_length, takenBytes_levelsOf]

def readsImage : State :=
  { ofLoader (fun l => { l with powerOn := false, phase := .readingImage, straps := ⟨3, 0, true⟩ }) State.reset with
    tick := 18760 }

theorem witness_ImagesAreSettled_valid :
    let whole := (List.range 466).map fun i => BitVec.ofNat 8 (byteTaken i (levelsOf zeroImage))
    placed 0 1 whole = 1 ∧ placed 1 2 whole = 461 ∧ placed 0 1 (whole.take 3) = 1 ∧ placed 1 2 (whole.take 3) = 461 ∧
      (crc (whole.take 464)).toNat = placed 464 2 whole := by
  rw [zeroImage_taken]
  refine ⟨rfl, rfl, rfl, rfl, ?_⟩
  have h : placed 464 2 zeroImage = (crc zeroFields).toNat := zeroFields_length ▸ placed_behind zeroFields _
  rw [h, zeroImage, List.take_left' zeroFields_length]

theorem witness_ImagesAreSettled :
    readsImage.loader.phase = .readingImage ∧ readsImage.loader.readFrom + 40 * (3 + 466) ≤ readsImage.tick ∧
    readsImage.loader.straps.image = true ∧ byteTaken 0 [] ≠ 1 ∧
    readsImage.loader.readFrom + 40 * (3 + 3) ≤ readsImage.tick ∧
    Straps.wellFormed ⟨15, 3, false⟩ = true := by decide +kernel

/-- A CHECK record of station 3 in HOLDOVER, its difference −2 pT (R196). -/
def checkRecord : Record :=
  { scalarRecord with station := 3, timebase := .holdover, body := .check 256 258 (-2) }

theorem test_check_bytes :
    checkRecord.bytes = [0x32, 0x03, 77, 0, 0, 0, 0, 0, 0, 0, 0, 1, 0, 0, 2, 1, 0, 0, 0xFE, 0xFF, 0xFF, 0xFF] ++
      List.replicate 10 0 := by decide

theorem witness_RecordsAndFramesRoundTrip :
    scalarRecord.station < 16 ∧ scalarRecord.seconds < 4294967296 ∧ scalarRecord.millis ≤ 999 ∧
    (49999551 : Int).natAbs ≤ 400000000 ∧ (10 : Nat) ≤ 10 ∧ (-5000 : Int) ≤ 7000 ∧ (7000 : Int) ≤ 7000 ∧
    (15 : Nat) < 16 ∧ (List.replicate 200 0#8).length ≤ 200 ∧
    checkRecord.body = .check 256 258 (-2) ∧ (-2 : Int).natAbs ≤ 400000000 ∧
    ({ checkRecord with body := .note (.comp .z (-32)) } : Record).body = .note (.comp .z (-32)) ∧
    (-9223372036854775808 : Int) ≤ -32 := by decide +kernel

end Sys2Proof.Tests
end

section
/-! Proofs about node times on their circle (R2): the model's difference is the balanced remainder `Int.bmod` of the
integer difference, and its sum is the remainder of the integer sum, so the library's laws of the two remainders serve. -/

namespace Sys2Proof.Machine

/-! ## The difference and the sum as remainders -/

/-- The half below zero comes from the model's test on d: a remainder of at least half the circle stands for itself
less the circle. -/
theorem diff_eq_bmod (a b : Nat) : diff a b = ((a : Int) - b).bmod Config.circle := by
  simp only [diff, Config.circle, Config.halfCircle, Int.bmod_def]
  split <;> split <;> omega

theorem cast_plus (t : Nat) (c : Int) : (plus t c : Int) = ((t : Int) + c) % Config.circle :=
  Int.toNat_of_nonneg (Int.emod_nonneg _ (by decide))

/-! ## The range and the congruence of each -/

theorem neg_halfCircle_le_diff (a b : Nat) : -(Config.halfCircle : Int) ≤ diff a b :=
  diff_eq_bmod a b ▸ Int.le_bmod (by decide)

theorem diff_lt_halfCircle (a b : Nat) : diff a b < Config.halfCircle :=
  diff_eq_bmod a b ▸ Int.bmod_lt (by decide)

theorem circle_dvd_sub_diff (a b : Nat) : (Config.circle : Int) ∣ (a : Int) - b - diff a b :=
  diff_eq_bmod a b ▸ Int.dvd_self_sub_bmod

theorem plus_lt_circle (t : Nat) (c : Int) : plus t c < Config.circle := by
  have h : (plus t c : Int) < Config.circle := cast_plus t c ▸ Int.emod_lt_of_pos _ (by decide)
  exact_mod_cast h

theorem circle_dvd_plus_sub (t : Nat) (c : Int) : (Config.circle : Int) ∣ plus t c - ((t : Int) + c) :=
  cast_plus t c ▸ Int.dvd_emod_sub_self

/-! ## The order by the sign of the difference -/

theorem later_iff (a b : Nat) : later a b = true ↔ 0 < diff a b := decide_eq_true_iff

theorem notBefore_eq_false_iff (a b : Nat) : notBefore a b = false ↔ diff a b < 0 :=
  decide_eq_false_iff_not.trans Int.not_le

/-! ## The difference undoes the sum -/

theorem diff_plus_self_eq_bmod (t : Nat) (c : Int) : diff (plus t c) t = c.bmod Config.circle := by
  rw [diff_eq_bmod, cast_plus, Int.emod_sub_bmod, add_sub_cancel_left]

/-- Within half the circle an amount added is the difference afterwards. -/
theorem diff_plus_self {c : Int} (t : Nat) (hlo : -(Config.halfCircle : Int) ≤ c) (hhi : c < Config.halfCircle) :
    diff (plus t c) t = c :=
  (diff_plus_self_eq_bmod t c).trans (Int.bmod_eq_of_le hlo hhi)

/-- Settles O13: the difference is the balanced remainder and the sum the remainder on the circle (R2). -/
theorem nodeTimesOnTheCircle : Obligations.NodeTimesOnTheCircle := by
  intro a b c _ _
  refine ⟨⟨?range_lo, ?range_hi, ?congr⟩, later_iff a b, notBefore_eq_false_iff a b, ?sum_lt, ?sum_congr, ?undo⟩
  case range_lo => exact neg_halfCircle_le_diff a b
  case range_hi => exact diff_lt_halfCircle a b
  case congr => exact circle_dvd_sub_diff a b
  case sum_lt => exact plus_lt_circle a c
  case sum_congr => exact circle_dvd_plus_sub a c
  case undo => exact diff_plus_self a

end Sys2Proof.Machine
end

section
/-! Proofs about the total field F_v (R141): the model finds its root bit by bit from the highest, and below 2⁶⁴ that is
the library's `Nat.sqrt`, so the library's laws of the square root serve. -/

namespace Sys2Proof.Machine

/-! ## The root by bits is the floor of the square root -/

/-- Each bit halves the interval from r to r + 2ᵇ that holds the root. -/
theorem rootFrom_eq_sqrt (b n r : Nat) (hlo : r * r ≤ n) (hhi : n < (r + 2 ^ b) * (r + 2 ^ b)) :
    rootFrom b n r = n.sqrt := by
  induction b generalizing r with
  | zero => exact Nat.eq_sqrt.mpr ⟨hlo, hhi⟩
  | succ b ih =>
    rw [rootFrom]
    split
    next hset =>
      have htop : r + 2 ^ b + 2 ^ b = r + 2 ^ (b + 1) := by rw [pow_succ]; omega
      exact ih _ hset (htop ▸ hhi)
    next hclear => exact ih r hlo (Nat.lt_of_not_le hclear)

theorem root_eq_sqrt {n : Nat} (h : n < 18446744073709551616) : root n = n.sqrt :=
  rootFrom_eq_sqrt 32 n 0 n.zero_le h

/-! ## The sum of the squares -/

/-- X² + Y² + Z². -/
def squareSum (v : Triple Int) : Nat :=
  v.x.natAbs * v.x.natAbs + v.y.natAbs * v.y.natAbs + v.z.natAbs * v.z.natAbs

theorem totalField_eq_root (v : Triple Int) : totalField v = root (squareSum v) := rfl

theorem cast_squareSum (x y z : Int) : (squareSum ⟨x, y, z⟩ : Int) = x * x + y * y + z * z := by
  simp only [squareSum, Nat.cast_add, Nat.cast_mul, Int.natAbs_mul_self']

theorem natAbs_mul_self_le {x : Int} (hx : x.natAbs ≤ 400000000) :
    x.natAbs * x.natAbs ≤ 160000000000000000 := Nat.mul_le_mul hx hx

theorem squareSum_le {x y z : Int} (hx : x.natAbs ≤ 400000000) (hy : y.natAbs ≤ 400000000)
    (hz : z.natAbs ≤ 400000000) : squareSum ⟨x, y, z⟩ ≤ 480000000000000000 :=
  Nat.add_le_add (Nat.add_le_add (natAbs_mul_self_le hx) (natAbs_mul_self_le hy)) (natAbs_mul_self_le hz)

/-! ## The total field of field values -/

theorem totalField_eq_sqrt {v : Triple Int} (h : squareSum v ≤ 480000000000000000) :
    totalField v = (squareSum v).sqrt :=
  (totalField_eq_root v).trans (root_eq_sqrt (h.trans_lt (by decide)))

theorem totalField_le {v : Triple Int} (h : squareSum v ≤ 480000000000000000) : totalField v ≤ 692820323 := by
  rw [totalField_eq_sqrt h]
  exact Nat.lt_succ_iff.mp (Nat.sqrt_lt.mpr (h.trans_lt (by decide)))

theorem totalField_mul_self_le {v : Triple Int} (h : squareSum v ≤ 480000000000000000) :
    totalField v * totalField v ≤ squareSum v :=
  totalField_eq_sqrt h ▸ Nat.sqrt_le _

theorem squareSum_lt_succ_totalField {v : Triple Int} (h : squareSum v ≤ 480000000000000000) :
    squareSum v < (totalField v + 1) * (totalField v + 1) :=
  totalField_eq_sqrt h ▸ Nat.lt_succ_sqrt _

/-- The two bounds on the square name the root. -/
theorem totalField_eq {v : Triple Int} {f : Nat} (h : squareSum v ≤ 480000000000000000)
    (hlo : f * f ≤ squareSum v) (hhi : squareSum v < (f + 1) * (f + 1)) : totalField v = f :=
  (totalField_eq_sqrt h).trans (Nat.eq_sqrt.mpr ⟨hlo, hhi⟩).symm

/-! ## Where the total field goes -/

theorem joinBuffer_getLast? (second total : Nat) (buf : List (Nat × Nat)) :
    (joinBuffer second total buf).getLast? = some (second, total) :=
  List.getLast?_concat

/-- A vector station with a partner buffers every undisturbed second that has all three components (R140). -/
theorem bufferRecord_recentF {r : Record} {v : Values} {x y z : Int} {s : State}
    (hv : v.value = ⟨some x, some y, some z⟩) (hrole : s.cfg.role = .vector) (hpartner : s.cfg.partner ≠ none)
    (hquiet : r.flags.disturbed = false) :
    (bufferRecord r v s).corr.recentF = joinBuffer r.seconds (totalField ⟨x, y, z⟩) s.corr.recentF := by
  have htaken : s.cfg.role = .vector ∧ s.cfg.partner.isSome ∧ r.flags.disturbed = false :=
    ⟨hrole, Option.isSome_iff_ne_none.mpr hpartner, hquiet⟩
  simp only [bufferRecord, hv, if_pos htaken, State.withCorr_corr]

/-- Settles O52: the root by bits is `Nat.sqrt`, the sum of three squares of field values lies below 2⁶⁴, and the buffer
and the CHECK record take their values as R140, R141 and R143 say. -/
theorem totalFieldIsTheFloorOfTheRoot : Obligations.TotalFieldIsTheFloorOfTheRoot := by
  refine ⟨?floor, ?examples, ?buffer, ?check⟩
  case floor =>
    intro x y z hx hy hz
    have hsum := squareSum_le hx hy hz
    rw [← cast_squareSum, ← Int.natAbs_mul_self' x]
    refine ⟨?_, ?_, totalField_le hsum, ?_, ?_, ?_⟩
    · exact_mod_cast totalField_mul_self_le hsum
    · exact_mod_cast squareSum_lt_succ_totalField hsum
    · exact_mod_cast natAbs_mul_self_le hx
    · exact_mod_cast hsum
    · exact_mod_cast hsum.trans_lt (by decide)
  case examples =>
    refine ⟨totalField_eq ?_ ?_ ?_, totalField_eq ?_ ?_ ?_, totalField_eq ?_ ?_ ?_⟩ <;> decide
  case buffer =>
    intro r v x y z s hv hrole hpartner hquiet
    rw [bufferRecord_recentF hv hrole hpartner hquiet, joinBuffer_getLast?]
  case check => exact fun s second fs fv => ⟨_, rfl⟩

end Sys2Proof.Machine
end

section
/-! What the operations of a started node are made of. `Reach K s t` says that t comes from s by moves of single blocks;
each operation of the model is proved once to be made of such moves, and a law of the node is then kept by every
operation as soon as it is kept by each move. -/

namespace Sys2Proof.Machine

/-! ## The moves -/

/-- What the moves may touch besides the line, the windows, the acquisition, the ring and the flags, and whether they may
begin an attempt. In a `loose` scope
nothing is asked of the start; otherwise it is a started node whose scalar cycles belong to a SCALAR node. -/
structure Scope where
  loose : Prop
  clock : Prop
  ref : Prop
  agr : Prop
  corr : Prop
  attempt : Prop

/-- The sizes of the blanking list and of the held windows (R98, R100), as ListLaw has them. -/
def ListOk (w : WindowUnit) : Prop := w.list.length ≤ 8 ∧ (w.list.map (·.id)).Nodup ∧ w.held.length ≤ 4

/-- The three components of StepsLaw (R110, R112). -/
def StepsOk (a : Acquisition) : Prop :=
  ComponentLaw a.steps.x a.pendingDir.x ∧ ComponentLaw a.steps.y a.pendingDir.y ∧
    ComponentLaw a.steps.z a.pendingDir.z

/-- The second being gathered is later than the last closed (R124). -/
def GatherOk (a : Acquisition) : Prop :=
  ∀ g l, a.gathering = some g → a.lastClosed = some l → 0 < secondsDifference g.second l

/-- Something of a scalar cycle is under way, or the node is a SCALAR one (R118). -/
def Cycles (s : State) : Prop :=
  s.cfg.role = .scalar ∨ s.acq.measuring ≠ none ∨ s.acq.reading ≠ none ∨ ∃ c, s.win.own.cause = .polarize c

/-- A scalar cycle belongs to a SCALAR node alone (R118). -/
def RoleLaw (s : State) : Prop := Cycles s → s.cfg.role = .scalar

/-- The offsets of the table lie in their bound (R23). -/
def RowsOk (rows : List Row) : Prop := ∀ r ∈ rows, r.offset.natAbs ≤ 1000000000000

/-- The two banks hold at most six records (R155). -/
def BanksOk (g : RecordRing) : Prop := g.bank0.records.length ≤ 6 ∧ g.bank1.records.length ≤ 6

/-- The bounds of ScanLaw on the scan of a ring (R159 to R161). -/
def ScanOk (g : RecordRing) : Prop :=
  ∀ sc, g.scan = some sc →
    sc.count ≤ 256 ∧ sc.collected ≤ 256 ∧ (sc.nextRecord ≠ none → sc.collected < 256) ∧
    ∀ r, sc.reply = some r → r.records.length ≤ 6

/-- An own record of the second being gathered, and the acquisition after its closure (R129, R137). -/
def ClosesSecond (r : Record) (a : Acquisition) (s : State) : Prop :=
  s.cfg.role = .vector ∧ ∃ g, s.acq.gathering = some g ∧ r.seconds = g.second ∧ r.millis = 0 ∧
    a.lastClosed = some g.second ∧ a.lastTag = s.acq.lastTag ∧
    ∃ acc, a.gathering = some { second := (g.second + 1) % 4294967296, acc := acc }

/-- An own record of a scalar reading, and the acquisition after its hand-over (R121, R136). -/
def ClosesReading (r : Record) (a : Acquisition) (s : State) : Prop :=
  ∃ tag, r.seconds = secondsOf (tagTime tag) ∧ r.millis = millisOf (tagTime tag) ∧
    (∀ l, s.acq.lastTag = some l → later (tagTime tag) l = true) ∧
    a.lastTag = some (tagTime tag) ∧ a.lastClosed = s.acq.lastClosed ∧ a.gathering = s.acq.gathering

/-- t comes from s by moves of single blocks within a scope. -/
inductive Reach (K : Scope) (s : State) : State → Prop
  | start (h : ¬ K.loose → s.running = true ∧ RoleLaw s) : Reach K s s
  | request {t : State} (q : Request) (h : Reach K s t) (hk : K.clock) (hq : q.takenIn t.clock.state = true) :
      Reach K s (t.withClock (q.clockAfter t.cfg.period t.clock))
  | ref {t : State} (r : RefInput) (h : Reach K s t) (hk : K.ref) : Reach K s (t.withRef r)
  | agr {t : State} (a : Agreement) (h : Reach K s t) (hk : K.agr)
      (hst : a.rows.map (·.station) = t.agr.rows.map (·.station)) (hok : RowsOk t.agr.rows → RowsOk a.rows) :
      Reach K s (t.withAgr a)
  | line {t : State} (l : LineUnit) (h : Reach K s t) (hq : t.line.queue.length ≤ 4 → l.queue.length ≤ 4)
      (hg : l.generator = t.line.generator ∨ l.generator = advanceGenerator t.line.generator)
      (ha : ¬ K.attempt → t.line.attempt = none → l.attempt = none) :
      Reach K s (t.withLine l)
  | win {t : State} (w : WindowUnit) (h : Reach K s t) (hl : ListOk t.win → ListOk w)
      (hc : ¬ K.loose → ∀ c, w.own.cause = .polarize c → t.cfg.role = .scalar) : Reach K s (t.withWin w)
  | acq {t : State} (a : Acquisition) (h : Reach K s t) (hs : StepsOk t.acq → StepsOk a)
      (hg : GatherOk t.acq → GatherOk a) (hc : ¬ K.loose → a.measuring ≠ none ∨ a.reading ≠ none → t.cfg.role = .scalar)
      (ht : a.lastTag = t.acq.lastTag) (hl : a.lastClosed = t.acq.lastClosed) : Reach K s (t.withAcq a)
  | corr {t : State} (c : Correction) (h : Reach K s t) (hk : K.corr)
      (hb : t.corr.recentF.length ≤ 64 → c.recentF.length ≤ 64) : Reach K s (t.withCorr c)
  | ring {t : State} (g : RecordRing) (h : Reach K s t) (hr : g.records = t.ring.records)
      (hs : ScanOk t.ring → ScanOk g) (hb : t.cfg.bankLength ≤ 6 → BanksOk t.ring → BanksOk g) :
      Reach K s (t.withRing g)
  | add {t : State} (r : Record) (h : Reach K s t) (ho : ¬ OwnOrReset r) (hf : r.body.inField) :
      Reach K s (t.withRing (t.ring.add r))
  | own {t : State} (r : Record) (a : Acquisition) (h : Reach K s t) (hf : r.body.inField) (hb : ∃ v, r.body = .own v)
      (hs : a.steps = t.acq.steps) (hp : a.pendingDir = t.acq.pendingDir)
      (hm : a.measuring = t.acq.measuring) (hr : a.reading = t.acq.reading)
      (ho : ClosesSecond r a t ∨ ((¬ K.loose → t.cfg.role = .scalar) ∧ ClosesReading r a t)) :
      Reach K s ((t.withAcq a).withRing (t.ring.add r))
  | flag {t : State} (f : Flag) (h : Reach K s t) : Reach K s (setFlag f t)
  | hand {t : State} (h : Reach K s t) : Reach K s (handState t)
  | clear {t : State} (g : Group) (m : Byte) (h : Reach K s t) : Reach K s (clearFlags g m t)
  | alarm {t : State} (u : FlagUnit) (h : Reach K s t) (hf : u.flags = t.flag.flags)
      (hc : u.closed = t.flag.closed) : Reach K s (t.withFlag u)

/-- Every block may be touched, from any start. -/
def Scope.whole : Scope := ⟨True, True, True, True, True, True⟩

theorem Reach.whole (s : State) : Reach Scope.whole s s := .start fun h => absurd trivial h

/-- The commands that wait, the tick, the settings and the loader stay. -/
theorem Reach.base {K : Scope} {s t : State} (h : Reach K s t) : t.base = s.base := by
  induction h with
  | start h => rfl
  | flag f _ ih => rw [← ih]; exact base_of_env (setFlag_env _ _)
  | hand _ ih => rw [← ih]; exact base_of_env (handState_env _)
  | clear g m _ ih => rw [← ih]; exact base_of_env (clearFlags_env _ _ _)
  | _ => assumption

theorem Reach.pending {K : Scope} {s t : State} (h : Reach K s t) : t.pending = s.pending := congrArg (·.1) h.base
theorem Reach.tick {K : Scope} {s t : State} (h : Reach K s t) : t.tick = s.tick := congrArg (·.2.1) h.base
theorem Reach.cfg {K : Scope} {s t : State} (h : Reach K s t) : t.cfg = s.cfg := congrArg (·.2.2.1) h.base
theorem Reach.loader {K : Scope} {s t : State} (h : Reach K s t) : t.loader = s.loader := congrArg (·.2.2.2) h.base

/-! What a CLEAR leaves alone (R172). -/

@[simp] theorem clearFlags_ref (g : Group) (m : Byte) (s : State) : (clearFlags g m s).ref = s.ref := by
  unfold clearFlags; dsimp only; split <;> simp
@[simp] theorem clearFlags_agr (g : Group) (m : Byte) (s : State) : (clearFlags g m s).agr = s.agr := by
  unfold clearFlags; dsimp only; split <;> simp
@[simp] theorem clearFlags_win (g : Group) (m : Byte) (s : State) : (clearFlags g m s).win = s.win := by
  unfold clearFlags; dsimp only; split <;> simp
@[simp] theorem clearFlags_acq (g : Group) (m : Byte) (s : State) : (clearFlags g m s).acq = s.acq := by
  unfold clearFlags; dsimp only; split <;> simp
@[simp] theorem clearFlags_corr (g : Group) (m : Byte) (s : State) : (clearFlags g m s).corr = s.corr := by
  unfold clearFlags; dsimp only; split <;> simp
@[simp] theorem clearFlags_ring (g : Group) (m : Byte) (s : State) : (clearFlags g m s).ring = s.ring := by
  unfold clearFlags; dsimp only; split <;> simp
@[simp] theorem clearFlags_line (g : Group) (m : Byte) (s : State) :
    (clearFlags g m s).line.butState = s.line.butState := by
  unfold clearFlags; dsimp only; split <;> simp

/-! The line but for its STATE slot, read off field by field, for simp. -/

theorem LineUnit.queue_of_butState {l l' : LineUnit} (h : l.butState = l'.butState) : l.queue = l'.queue :=
  (congrArg LineUnit.queue h :)
theorem LineUnit.generator_of_butState {l l' : LineUnit} (h : l.butState = l'.butState) : l.generator = l'.generator :=
  (congrArg LineUnit.generator h :)
theorem LineUnit.attempt_of_butState {l l' : LineUnit} (h : l.butState = l'.butState) : l.attempt = l'.attempt :=
  (congrArg LineUnit.attempt h :)
theorem LineUnit.jam_of_butState {l l' : LineUnit} (h : l.butState = l'.butState) : l.jam = l'.jam :=
  (congrArg LineUnit.jam h :)
theorem LineUnit.reception_of_butState {l l' : LineUnit} (h : l.butState = l'.butState) : l.reception = l'.reception :=
  (congrArg LineUnit.reception h :)
theorem LineUnit.state_of_butState {l l' : LineUnit} (h : l.butState = l'.butState) : l.state = l'.state :=
  (congrArg LineUnit.state h :)

@[simp] theorem handState_line_queue (s : State) : (handState s).line.queue = s.line.queue :=
  LineUnit.queue_of_butState (handState_line s)
@[simp] theorem handState_line_generator (s : State) : (handState s).line.generator = s.line.generator :=
  LineUnit.generator_of_butState (handState_line s)
@[simp] theorem handState_line_attempt (s : State) : (handState s).line.attempt = s.line.attempt :=
  LineUnit.attempt_of_butState (handState_line s)
@[simp] theorem handState_line_jam (s : State) : (handState s).line.jam = s.line.jam :=
  LineUnit.jam_of_butState (handState_line s)
@[simp] theorem handState_line_reception (s : State) : (handState s).line.reception = s.line.reception :=
  LineUnit.reception_of_butState (handState_line s)
@[simp] theorem handState_line_state (s : State) : (handState s).line.state = s.line.state :=
  LineUnit.state_of_butState (handState_line s)
@[simp] theorem setFlag_line_queue (f : Flag) (s : State) : (setFlag f s).line.queue = s.line.queue :=
  LineUnit.queue_of_butState (setFlag_line _ s)
@[simp] theorem setFlag_line_generator (f : Flag) (s : State) : (setFlag f s).line.generator = s.line.generator :=
  LineUnit.generator_of_butState (setFlag_line _ s)
@[simp] theorem setFlag_line_attempt (f : Flag) (s : State) : (setFlag f s).line.attempt = s.line.attempt :=
  LineUnit.attempt_of_butState (setFlag_line _ s)
@[simp] theorem setFlag_line_jam (f : Flag) (s : State) : (setFlag f s).line.jam = s.line.jam :=
  LineUnit.jam_of_butState (setFlag_line _ s)
@[simp] theorem setFlag_line_reception (f : Flag) (s : State) : (setFlag f s).line.reception = s.line.reception :=
  LineUnit.reception_of_butState (setFlag_line _ s)
@[simp] theorem setFlag_line_state (f : Flag) (s : State) : (setFlag f s).line.state = s.line.state :=
  LineUnit.state_of_butState (setFlag_line _ s)
@[simp] theorem setFlagIf_line_queue (b : Bool) (f : Flag) (s : State) : (setFlagIf b f s).line.queue = s.line.queue :=
  LineUnit.queue_of_butState (setFlagIf_line _ _ s)
@[simp] theorem setFlagIf_line_generator (b : Bool) (f : Flag) (s : State) : (setFlagIf b f s).line.generator = s.line.generator :=
  LineUnit.generator_of_butState (setFlagIf_line _ _ s)
@[simp] theorem setFlagIf_line_attempt (b : Bool) (f : Flag) (s : State) : (setFlagIf b f s).line.attempt = s.line.attempt :=
  LineUnit.attempt_of_butState (setFlagIf_line _ _ s)
@[simp] theorem setFlagIf_line_jam (b : Bool) (f : Flag) (s : State) : (setFlagIf b f s).line.jam = s.line.jam :=
  LineUnit.jam_of_butState (setFlagIf_line _ _ s)
@[simp] theorem setFlagIf_line_reception (b : Bool) (f : Flag) (s : State) : (setFlagIf b f s).line.reception = s.line.reception :=
  LineUnit.reception_of_butState (setFlagIf_line _ _ s)
@[simp] theorem setFlagIf_line_state (b : Bool) (f : Flag) (s : State) : (setFlagIf b f s).line.state = s.line.state :=
  LineUnit.state_of_butState (setFlagIf_line _ _ s)
@[simp] theorem clearFlags_line_queue (g : Group) (m : Byte) (s : State) : (clearFlags g m s).line.queue = s.line.queue :=
  LineUnit.queue_of_butState (clearFlags_line _ _ s)
@[simp] theorem clearFlags_line_generator (g : Group) (m : Byte) (s : State) : (clearFlags g m s).line.generator = s.line.generator :=
  LineUnit.generator_of_butState (clearFlags_line _ _ s)
@[simp] theorem clearFlags_line_attempt (g : Group) (m : Byte) (s : State) : (clearFlags g m s).line.attempt = s.line.attempt :=
  LineUnit.attempt_of_butState (clearFlags_line _ _ s)
@[simp] theorem clearFlags_line_jam (g : Group) (m : Byte) (s : State) : (clearFlags g m s).line.jam = s.line.jam :=
  LineUnit.jam_of_butState (clearFlags_line _ _ s)
@[simp] theorem clearFlags_line_reception (g : Group) (m : Byte) (s : State) : (clearFlags g m s).line.reception = s.line.reception :=
  LineUnit.reception_of_butState (clearFlags_line _ _ s)
@[simp] theorem clearFlags_line_state (g : Group) (m : Byte) (s : State) : (clearFlags g m s).line.state = s.line.state :=
  LineUnit.state_of_butState (clearFlags_line _ _ s)

/-! The environment, read off field by field, for simp. -/

theorem clock_of_env {s t : State} (h : s.env = t.env) : s.clock = t.clock := (State.env_eq h).2.2.2.2
theorem cfg_of_env {s t : State} (h : s.env = t.env) : s.cfg = t.cfg := (State.env_eq h).2.2.1
theorem loader_of_env {s t : State} (h : s.env = t.env) : s.loader = t.loader := (State.env_eq h).2.2.2.1
theorem tick_of_env {s t : State} (h : s.env = t.env) : s.tick = t.tick := (State.env_eq h).2.1

@[simp] theorem setFlag_clock (f : Flag) (s : State) : (setFlag f s).clock = s.clock := clock_of_env (setFlag_env f s)
@[simp] theorem setFlag_cfg (f : Flag) (s : State) : (setFlag f s).cfg = s.cfg := cfg_of_env (setFlag_env f s)
@[simp] theorem setFlag_loader (f : Flag) (s : State) : (setFlag f s).loader = s.loader := loader_of_env (setFlag_env f s)
@[simp] theorem setFlag_tick (f : Flag) (s : State) : (setFlag f s).tick = s.tick := tick_of_env (setFlag_env f s)
@[simp] theorem setFlagIf_clock (b : Bool) (f : Flag) (s : State) : (setFlagIf b f s).clock = s.clock :=
  clock_of_env (setFlagIf_env b f s)
@[simp] theorem setFlagIf_cfg (b : Bool) (f : Flag) (s : State) : (setFlagIf b f s).cfg = s.cfg :=
  cfg_of_env (setFlagIf_env b f s)
@[simp] theorem setFlagIf_loader (b : Bool) (f : Flag) (s : State) : (setFlagIf b f s).loader = s.loader :=
  loader_of_env (setFlagIf_env b f s)
@[simp] theorem setFlagIf_tick (b : Bool) (f : Flag) (s : State) : (setFlagIf b f s).tick = s.tick :=
  tick_of_env (setFlagIf_env b f s)
@[simp] theorem clearFlags_clock (g : Group) (m : Byte) (s : State) : (clearFlags g m s).clock = s.clock :=
  clock_of_env (clearFlags_env g m s)
@[simp] theorem clearFlags_cfg (g : Group) (m : Byte) (s : State) : (clearFlags g m s).cfg = s.cfg :=
  cfg_of_env (clearFlags_env g m s)
@[simp] theorem handState_clock (s : State) : (handState s).clock = s.clock := clock_of_env (handState_env s)
@[simp] theorem handState_cfg (s : State) : (handState s).cfg = s.cfg := cfg_of_env (handState_env s)

/-! ## What stays within a scope -/

section
variable {K : Scope} {s t : State}

theorem Reach.ref_eq (h : Reach K s t) (hk : ¬ K.ref) : t.ref = s.ref := by
  induction h with
  | start h => rfl
  | ref r _ hr ih => exact absurd hr hk
  | _ => simp_all

theorem Reach.agr_eq (h : Reach K s t) (hk : ¬ K.agr) : t.agr = s.agr := by
  induction h with
  | start h => rfl
  | agr r _ hr _ _ ih => exact absurd hr hk
  | _ => simp_all

theorem Reach.corr_eq (h : Reach K s t) (hk : ¬ K.corr) : t.corr = s.corr := by
  induction h with
  | start h => rfl
  | corr r _ hr _ ih => exact absurd hr hk
  | _ => simp_all

theorem Reach.clock_eq (h : Reach K s t) (hk : ¬ K.clock) : t.clock = s.clock := by
  induction h with
  | start h => rfl
  | request q _ hr _ ih => exact absurd hr hk
  | _ => simp_all

/-- The moves begin no attempt. -/
theorem Reach.attempt_none (h : Reach K s t) (hk : ¬ K.attempt) (hn : s.line.attempt = none) :
    t.line.attempt = none := by
  induction h with
  | start h => exact hn
  | line l _ _ _ ha ih => exact ha hk ih
  | flag f _ ih => rwa [setFlag_line_attempt]
  | clear g m _ ih => rwa [clearFlags_line_attempt]
  | _ => assumption

/-- The start's law of the scalar cycles is kept, and the node stays started. -/
theorem Reach.role (h : Reach K s t) (hk : ¬ K.loose) : t.running = true ∧ RoleLaw t := by
  refine ⟨?_, ?_⟩
  · have hs : s.running = true := by
      induction h with
      | start h => exact (h hk).1
      | _ => assumption
    rw [State.running, h.loader]; exact hs
  · induction h with
    | start h => exact (h hk).2
    | win w _ _ hc ih =>
      rintro (h | h | h | ⟨c, h⟩)
      · exact h
      · exact ih (.inr (.inl h))
      · exact ih (.inr (.inr (.inl h)))
      · exact hc hk c h
    | acq a _ _ _ hc _ _ ih =>
      rintro (h | h | h | h)
      · exact h
      · exact hc hk (.inl h)
      · exact hc hk (.inr h)
      · exact ih (.inr (.inr (.inr h)))
    | own r a _ _ _ _ _ hm hr _ ih =>
      simpa [RoleLaw, Cycles, hm, hr] using ih
    | _ => simpa [RoleLaw, Cycles] using ‹RoleLaw _›

/-- Where something of a scalar cycle is under way, the node is a SCALAR one. -/
theorem Reach.scalar (h : Reach K s t) (hc : Cycles t) : ¬ K.loose → t.cfg.role = .scalar := fun hk => (h.role hk).2 hc

end

end Sys2Proof.Machine
end

section
/-! Each shared operation is made of moves (`Reach`): the rings, the flags, the records and the sensor side. -/

namespace Sys2Proof.Machine

variable {K : Scope} {s t : State}

/-! ## Moves in the forms the operations use -/

theorem Reach.flagIf (b : Bool) (f : Flag) (h : Reach K s t) : Reach K s (setFlagIf b f t) := by
  cases b with
  | false => exact h
  | true => exact h.flag f

/-- The Line Unit changed but for its queue and its generator. -/
theorem Reach.lineOwn (l : LineUnit) (h : Reach K s t) (hq : l.queue = t.line.queue)
    (hg : l.generator = t.line.generator)
    (ha : ¬ K.attempt → t.line.attempt = none → l.attempt = none := by exact fun _ hn => hn) :
    Reach K s (t.withLine l) := h.line l (by rw [hq]; exact id) (.inl hg) ha

/-- The Window Unit changed but for its windows and the cause. -/
theorem Reach.winOwn (w : WindowUnit) (h : Reach K s t) (hl : w.list = t.win.list) (hh : w.held = t.win.held)
    (hc : w.own.cause = t.win.own.cause ∨ ∀ c, w.own.cause ≠ .polarize c) : Reach K s (t.withWin w) := by
  refine h.win w (by unfold ListOk; rw [hl, hh]; exact id) fun hk c e => ?_
  rcases hc with hc | hc
  · exact h.scalar (.inr (.inr (.inr ⟨c, hc ▸ e⟩))) hk
  · exact absurd e (hc c)

/-- The Acquisition Unit changed but for the steps, the seconds, the scalar cycle and the last tag. -/
theorem Reach.acqOwn (a : Acquisition) (h : Reach K s t) (hs : a.steps = t.acq.steps)
    (hp : a.pendingDir = t.acq.pendingDir) (hg : a.gathering = t.acq.gathering) (hl : a.lastClosed = t.acq.lastClosed)
    (hm : a.measuring = t.acq.measuring ∨ a.measuring = none) (hr : a.reading = t.acq.reading ∨ a.reading = none)
    (ht : a.lastTag = t.acq.lastTag) : Reach K s (t.withAcq a) := by
  refine h.acq a (by unfold StepsOk; rw [hs, hp]; exact id) (by unfold GatherOk; rw [hg, hl]; exact id)
    (fun hk e => ?_) ht hl
  rcases e with e | e
  · exact h.scalar (.inr (.inl fun hn => hm.elim (fun h => e (h.trans hn)) e)) hk
  · exact h.scalar (.inr (.inr (.inl fun hn => hr.elim (fun h => e (h.trans hn)) e))) hk

/-! ## The Flag Unit -/

theorem periodicState_reach (h : Reach K s t) : Reach K s (periodicState t) := h.hand.alarm _ rfl rfl

/-! ## Commits (R146, R147) -/

theorem commit_reach (r : Record) (h : Reach K s t) (ho : ¬ OwnOrReset r) (hf : r.body.inField) :
    Reach K s (commit r t) := (h.add r ho hf).flagIf _ _

/-- A note of this node other than the RESET note. -/
theorem commitNote_reach (n : Note) (h : Reach K s t) (hn : ∀ c, n ≠ .reset c) : Reach K s (commitNote n t) := by
  refine commit_reach _ h ?_ trivial
  cases n with
  | reset c => exact absurd rfl (hn c)
  | step c | timebase p | comp c k => exact id

/-! ## Block banks (R155 to R158) -/

/-- The ring with a FILLING bank closed and the other FILLING, empty (R156). -/
def RecordRing.switched (g : RecordRing) (i : Bool) : RecordRing :=
  (g.setBank i { g.bank i with state := .pending }).setBank (!i) { state := .filling, records := [] }

/-- A bank closes beside a FREE or a PENDING one only (R156). -/
theorem closeBank_eq (i : Bool) (s : State) :
    closeBank i s =
      if (s.ring.bank (!i)).state = .free ∨ (s.ring.bank (!i)).state = .pending then
        setFlagIf (decide ((s.ring.bank (!i)).state = .pending)) .bankDrop
          ((s.withRing (s.ring.switched i)).withLine { s.line with bankFailures := 0 })
      else s := by
  unfold closeBank
  cases h : (s.ring.bank (!i)).state <;> simp [h, RecordRing.switched]

theorem RecordRing.setBank_records (g : RecordRing) (i : Bool) (b : Bank) : (g.setBank i b).records = g.records := by
  cases i <;> rfl
theorem RecordRing.setBank_scan (g : RecordRing) (i : Bool) (b : Bank) : (g.setBank i b).scan = g.scan := by
  cases i <;> rfl
theorem RecordRing.setBank_ok {g : RecordRing} (i : Bool) {b : Bank} (h : BanksOk g) (hb : b.records.length ≤ 6) :
    BanksOk (g.setBank i b) := by
  cases i
  · exact ⟨hb, h.2⟩
  · exact ⟨h.1, hb⟩
theorem RecordRing.bank_ok {g : RecordRing} (i : Bool) (h : BanksOk g) : (g.bank i).records.length ≤ 6 := by
  cases i
  · exact h.1
  · exact h.2

/-- One bank replaced by one that holds at most six records. -/
theorem Reach.bank (i : Bool) (b : Bank) (h : Reach K s t)
    (hb : t.cfg.bankLength ≤ 6 → BanksOk t.ring → b.records.length ≤ 6) : Reach K s (t.withRing (t.ring.setBank i b)) := by
  refine h.ring _ (RecordRing.setBank_records _ _ _) ?_ fun hl ho => RecordRing.setBank_ok i ho (hb hl ho)
  unfold ScanOk; rw [RecordRing.setBank_scan]; exact id

theorem closeBank_reach (i : Bool) (h : Reach K s t) : Reach K s (closeBank i t) := by
  rw [closeBank_eq]
  split
  · exact Reach.flagIf _ _ (Reach.lineOwn _ (Reach.bank (!i) _ (Reach.bank i { t.ring.bank i with state := .pending } h
      fun _ ho => RecordRing.bank_ok i ho) fun _ _ => Nat.zero_le 6) rfl rfl)
  · exact h

theorem fillBank_reach (r : Record) (h : Reach K s t) : Reach K s (fillBank r t) := by
  unfold fillBank
  split
  · exact h
  · rename_i i _
    dsimp only
    split
    · rename_i hlt
      have hs := h.bank i { state := .filling, records := (t.ring.bank i).records ++ [r] } fun hl _ => by
        simp only [List.length_append, List.length_singleton]; omega
      split
      · exact hs
      · exact closeBank_reach i hs
    · refine Reach.flag _ (h.bank i _ fun _ ho => ?_)
      have := RecordRing.bank_ok i ho
      simp only [List.length_append, List.length_tail, List.length_singleton]; omega

/-- A bank after a report on its frame (R65, R66, R69). -/
def Bank.reported (rep : Report) (b : Bank) : Bank := if rep = .failed then { b with state := .pending } else Bank.empty

/-- A report settles its bank, and a full bank beside it then closes (R158). -/
theorem bankReport_eq (i : Bool) (rep : Report) (u : State) :
    bankReport i rep u =
      let v := u.withRing (u.ring.setBank i ((u.ring.bank i).reported rep))
      if (v.ring.bank (!i)).filling && decide (u.cfg.bankLength ≤ (v.ring.bank (!i)).records.length) then
        closeBank (!i) v
      else v := rfl

theorem bankReport_reach (i : Bool) (rep : Report) (h : Reach K s t) : Reach K s (bankReport i rep t) := by
  have hs := h.bank i ((t.ring.bank i).reported rep) fun _ ho => by
    unfold Bank.reported
    split
    · exact RecordRing.bank_ok i ho
    · exact Nat.zero_le 6
  rw [bankReport_eq]
  dsimp only
  split
  · exact closeBank_reach _ hs
  · exact hs

/-! ## Recall (R159 to R164) -/

/-- The scan replaced. -/
theorem Reach.scan (sc : Option Scan) (h : Reach K s t)
    (hs : ScanOk t.ring → ScanOk { t.ring with scan := sc }) : Reach K s (t.withRing { t.ring with scan := sc }) :=
  h.ring _ rfl hs fun _ ho => ho

/-- A walk collects at most 256 records, fewer if it goes on, and gets at most six (R161). -/
theorem walk_bounds (first count : Nat) (endRecord : Option Nat) (rs : List Record) (k : Nat) (got : List Record)
    (n : Nat) (hgot : got.length < 6) (hn : n ≤ 256) (hlt : rs ≠ [] → n < 256) :
    (walk first count endRecord rs k got n).collected ≤ 256 ∧
      ((walk first count endRecord rs k got n).nextRecord ≠ none →
        (walk first count endRecord rs k got n).collected < 256) ∧
      (walk first count endRecord rs k got n).records.length ≤ 6 := by
  induction rs generalizing k got n with
  | nil => exact ⟨hn, fun h => absurd rfl h, by simp only [walk]; omega⟩
  | cons r rs ih =>
    have hn' := hlt (by simp)
    have hnext : (if r.inRange first count then n + 1 else n) ≤ 256 := by split <;> omega
    have hlen : (if r.inRange first count then got ++ [r] else got).length ≤ 6 := by
      split
      · simp only [List.length_append, List.length_singleton]; omega
      · omega
    unfold walk
    dsimp only
    generalize (if r.inRange first count then n + 1 else n) = n' at hnext ⊢
    generalize (if r.inRange first count then got ++ [r] else got) = got' at hlen ⊢
    split
    · exact ⟨hnext, fun h => absurd rfl h, hlen⟩
    · rename_i hstop
      have hless := Nat.lt_of_not_le fun h => hstop (.inl h)
      split
      · exact ⟨hnext, fun _ => hless, hlen⟩
      · exact ih _ _ _ (by omega) hnext fun _ => hless

/-- Assembling a reply keeps the bounds of the scan (R161). -/
theorem Scan.assembled_ok {g : RecordRing} {sc : Scan} (hs : ScanOk g) (hsc : g.scan = some sc) :
    ScanOk { g with scan := some (sc.assembled g) } := by
  obtain ⟨hcount, hcoll, hnext, -⟩ := hs sc hsc
  intro sc' e
  obtain rfl : sc.assembled g = sc' := by simpa using e
  unfold Scan.assembled
  split
  · refine ⟨hcount, hcoll, fun h => absurd rfl h, fun r hr => ?_⟩
    obtain rfl := Option.some.inj hr
    exact Nat.zero_le 6
  · have hw : (sc.walkOn g).collected ≤ 256 ∧ ((sc.walkOn g).nextRecord ≠ none → (sc.walkOn g).collected < 256) ∧
        (sc.walkOn g).records.length ≤ 6 := by
      unfold Scan.walkOn
      split
      · exact ⟨hcoll, fun h => absurd rfl h, Nat.zero_le 6⟩
      · rename_i k hk
        exact walk_bounds _ _ _ _ _ _ _ (by simp) hcoll fun _ => hnext (by simp [hk])
    refine ⟨hcount, hw.1, hw.2.1, fun r hr => ?_⟩
    obtain rfl := Option.some.inj hr
    exact hw.2.2

theorem assembleReply_reach (h : Reach K s t) : Reach K s (assembleReply t) := by
  unfold assembleReply
  split
  · exact h
  · rename_i sc hsc
    split
    · exact Reach.lineOwn _ (Reach.scan _ h fun hs => Scan.assembled_ok hs hsc) rfl rfl
    · exact h

/-- A scan with fewer records in its reply, or none, keeps its bounds. -/
theorem scanOk_reply {g : RecordRing} {sc sc' : Scan} (hs : ScanOk g) (hsc : g.scan = some sc)
    (hc : sc'.count = sc.count) (hl : sc'.collected = sc.collected) (hn : sc'.nextRecord = sc.nextRecord)
    (hr : ∀ r, sc'.reply = some r → r.records.length ≤ 6) : ScanOk { g with scan := some sc' } := by
  obtain ⟨hcount, hcoll, hnext, -⟩ := hs sc hsc
  intro sc'' e
  obtain rfl : sc' = sc'' := by simpa using e
  exact ⟨hc ▸ hcount, hl ▸ hcoll, hn ▸ hl ▸ hnext, hr⟩

theorem scanOk_none (g : RecordRing) : ScanOk { g with scan := none } := fun _ e => by simp at e

theorem recallReport_reach (rep : Report) (h : Reach K s t) : Reach K s (recallReport rep t) := by
  have hnone := h.scan none fun _ => scanOk_none _
  unfold recallReport
  split
  · exact h
  · rename_i sc hsc
    split
    · exact h
    · split
      · exact h
      · split
        · exact hnone
        · exact assembleReply_reach (h.scan _ fun hs => scanOk_reply hs hsc rfl rfl rfl (by simp))
      · split
        · split
          · exact hnone
          · refine Reach.lineOwn _ (h.scan _ fun hs => scanOk_reply hs hsc rfl rfl rfl fun r hr => ?_) rfl rfl
            obtain rfl := Option.some.inj hr
            exact Nat.zero_le 6
        · exact assembleReply_reach (h.scan _ fun hs => scanOk_reply hs hsc rfl rfl rfl (by simp))

theorem newScan_ok (first count : Nat) (g : RecordRing) : ScanOk { g with scan := some (newScan first count g) } := by
  intro sc e
  obtain rfl : newScan first count g = sc := by simpa using e
  exact ⟨Nat.min_le_right _ _, Nat.zero_le _, fun _ => Nat.zero_lt_of_lt (Nat.lt_add_one _), fun r hr => by simp [newScan] at hr⟩

theorem startScan_reach (first count : Nat) (h : Reach K s t) : Reach K s (startScan first count t) := by
  have hs := h.scan _ fun _ => newScan_ok first count t.ring
  unfold startScan
  dsimp only
  split
  · refine Reach.lineOwn _ hs rfl rfl fun _ hn => ?_
    simpa using hn
  · exact assembleReply_reach hs

/-! ## Records with field values in range (R135, R143, R153) -/

theorem clampField_inField (v : Int) : InField (clampField v) := by
  unfold InField clampField clampTo
  simp only [Config.fieldLimit]
  split_ifs <;> omega

theorem correctValue_inField (cfg : Settings) (c : CompSettings) (p : TempState) (mean : Int) :
    InField (correctValue cfg c p mean).1 := by
  unfold correctValue correctedBy
  split
  · exact clampField_inField _
  · exact clampField_inField _

theorem closeComponent_inField {u : State} {i : NodeTime} {c : Comp} {a : Accum} {x : Int}
    (h : (closeComponent u i c a).map (·.value) = some x) : InField x := by
  unfold closeComponent at h
  cases hm : presentMean u.cfg.minSamples a with
  | none => simp [hm] at h
  | some mean =>
    simp only [hm, Option.map_some, Option.some.injEq] at h
    exact h ▸ correctValue_inField _ _ _ _

/-- The values of an accepted PEER record lie in range (R153). -/
theorem valueAdmitted_inField {v : Option Int} {n : Nat} (h : valueAdmitted v n = true) {x : Int} (hx : v = some x) :
    InField x := by
  subst hx
  simp only [valueAdmitted, Bool.and_eq_true, decide_eq_true_eq] at h
  exact h.2.2

theorem peerRecord_peer {k : Nat} {role : Role} {bs : List Byte} {r : Record} (h : peerRecord k role bs = some r) :
    ∃ v, r.body = .peer v (asPeer bs) ∧ r.body.inField := by
  unfold peerRecord at h
  dsimp only at h
  split at h
  · exact absurd h (by simp)
  · split at h
    · rename_i hok
      obtain ⟨-, -, -, -, hx, hy, hz, -⟩ := hok
      obtain rfl := Option.some.inj h
      refine ⟨_, rfl, fun p hp x e => ?_⟩
      simp only [Triple.toList, List.mem_cons, List.not_mem_nil, or_false] at hp
      rcases hp with rfl | rfl | rfl
      · exact valueAdmitted_inField hx e
      · exact valueAdmitted_inField hy e
      · exact valueAdmitted_inField hz e
    · exact absurd h (by simp)

theorem partnerField_inField {cfg : Settings} {r : Record} {x : Int} (hr : r.body.inField)
    (h : partnerField cfg r = some x) : InField x := by
  unfold partnerField at h
  split at h
  · split at h
    · rename_i v _ hb
      rw [hb] at hr
      exact hr _ (by simp [Triple.toList]) x h
    all_goals exact absurd h (by simp)
  · exact absurd h (by simp)

/-! ## The ΔF check (R142 to R144) -/

theorem checkPeer_reach (r : Record) (h : Reach K s t) (hk : K.corr) (hr : r.body.inField) :
    Reach K s (checkPeer r t) := by
  unfold checkPeer
  split
  · exact h
  · rename_i fs hfs
    split
    · exact h
    · rename_i e _
      dsimp only
      have hc := commit_reach (checkRecord t e.1 fs e.2) h id
        ⟨partnerField_inField hr hfs, clampField_inField _, clampField_inField _⟩
      exact Reach.flagIf _ _ (Reach.corr _ hc hk id)

theorem commitPeer_reach (k : Nat) (role : Role) (bs : List Byte) (h : Reach K s t) (hk : K.corr) :
    Reach K s (commitPeer k role bs t) := by
  unfold commitPeer
  split
  · exact h
  · rename_i r hr
    obtain ⟨v, hb, hf⟩ := peerRecord_peer hr
    exact checkPeer_reach r (commit_reach r h (by simp [OwnOrReset, hb]) hf) hk hf

/-! ## The hand-over of an own record commutes with the Acquisition Unit's bookkeeping -/

theorem setFlag_withAcq (f : Flag) (a : Acquisition) (u : State) :
    setFlag f (u.withAcq a) = (setFlag f u).withAcq a := by
  unfold setFlag
  dsimp only
  split
  · rename_i hc
    rw [if_pos (show (flagEnabled f u && !u.flag.closed.get f.group) = true from hc)]; rfl
  · rename_i hc
    rw [if_neg (show ¬ (flagEnabled f u && !u.flag.closed.get f.group) = true from hc)]; rfl
theorem setFlagIf_withAcq (b : Bool) (f : Flag) (a : Acquisition) (u : State) :
    setFlagIf b f (u.withAcq a) = (setFlagIf b f u).withAcq a := by
  cases b
  · rfl
  · exact setFlag_withAcq f a u
theorem closeBank_withAcq (i : Bool) (a : Acquisition) (u : State) :
    closeBank i (u.withAcq a) = (closeBank i u).withAcq a := by
  rw [closeBank_eq, closeBank_eq]
  split
  · rw [if_pos (by assumption), ← setFlagIf_withAcq]; rfl
  · rw [if_neg (by assumption)]
theorem fillBank_withAcq (r : Record) (a : Acquisition) (u : State) :
    fillBank r (u.withAcq a) = (fillBank r u).withAcq a := by
  unfold fillBank
  rw [State.withAcq_ring]
  split
  · rfl
  · dsimp only
    rw [State.withAcq_cfg]
    split
    · split
      · rfl
      · exact closeBank_withAcq _ a (u.withRing _)
    · exact setFlag_withAcq _ a (u.withRing _)
theorem handRecord_withAcq (r : Record) (a : Acquisition) (u : State) :
    (handRecord r u).withAcq a =
      setFlagIf r.flags.tableEdge .tableEdge
        (fillBank r (setFlagIf u.ring.full .ringWrap ((u.withAcq a).withRing (u.ring.add r)))) := by
  unfold handRecord commitOwn commit
  rw [← setFlagIf_withAcq, ← fillBank_withAcq, ← setFlagIf_withAcq]
  rfl
theorem bufferRecord_withAcq (r : Record) (v : Values) (a : Acquisition) (u : State) :
    bufferRecord r v (u.withAcq a) = (bufferRecord r v u).withAcq a := by
  unfold bufferRecord
  split
  · rw [State.withAcq_cfg]
    split <;> rfl
  · rfl

/-- An own record handed over with the bookkeeping of its second or reading. -/
theorem handRecord_reach (r : Record) (a : Acquisition) (h : Reach K s t) (hf : r.body.inField)
    (hb : ∃ v, r.body = .own v) (hs : a.steps = t.acq.steps) (hp : a.pendingDir = t.acq.pendingDir)
    (hm : a.measuring = t.acq.measuring) (hr : a.reading = t.acq.reading)
    (ho : ClosesSecond r a t ∨ ((¬ K.loose → t.cfg.role = .scalar) ∧ ClosesReading r a t)) :
    Reach K s ((handRecord r t).withAcq a) := by
  rw [handRecord_withAcq]
  exact Reach.flagIf _ _ (fillBank_reach r (Reach.flagIf _ _ (h.own r a hf hb hs hp hm hr ho)))

theorem bufferRecord_reach (r : Record) (v : Values) (h : Reach K s t) (hk : K.corr) :
    Reach K s (bufferRecord r v t) := by
  unfold bufferRecord
  split
  · split
    · refine h.corr _ hk fun hl => ?_
      unfold joinBuffer
      simp only [Config.bufferSize]
      split
      · simp only [List.length_append, List.length_tail, List.length_singleton]; omega
      · simp only [List.length_append, List.length_singleton]; omega
    · exact h
  · exact h

/-- A closure hands over one own record of the second being gathered (R129). -/
theorem closure_reach {g : Gathering} (h : Reach K s t) (hk : K.corr) (hg : t.acq.gathering = some g)
    (hv : t.cfg.role = .vector) : Reach K s (closure g t) := by
  unfold closure closeSecond
  dsimp only
  rw [← bufferRecord_withAcq]
  refine bufferRecord_reach _ _ (handRecord_reach _ _ h ?_ ⟨_, rfl⟩ rfl rfl rfl rfl
    (.inl ⟨hv, g, hg, rfl, rfl, rfl, rfl, _, rfl⟩)) hk
  intro p hp x e
  simp only [Triple.toList, List.mem_cons, List.not_mem_nil, or_false] at hp
  rcases hp with rfl | rfl | rfl <;> exact closeComponent_inField e

/-- A scalar reading makes one own record with its tag (R136). -/
theorem closeScalar_eq (tag : NodeTime) (v : ScalarValue) (x d : Bool) (u : State) :
    ∃ b r w, closeScalar tag v x d u = setFlagIf b .saturated (handRecord r u) ∧ r.body = .own w ∧
      r.body.inField ∧ r.seconds = secondsOf tag ∧ r.millis = millisOf tag := by
  unfold closeScalar
  refine ⟨_, _, _, rfl, rfl, ?_, rfl, rfl⟩
  intro p hp y e
  simp only [Triple.toList, List.mem_cons, List.not_mem_nil, or_false] at hp
  rcases hp with rfl | rfl | rfl
  · cases v with
    | frequency f =>
      by_cases hf : f = 0
      · simp [hf] at e
      · simp only [if_neg hf, Option.map_some, Option.some.injEq] at e
        exact e ▸ correctValue_inField _ _ _ _
    | missing | skipped => simp at e
  all_goals simp at e

/-- A reading handed over (R121, R122, R136). -/
theorem handReading_reach (tag : NodeTime) (v : ScalarValue) (d : Bool) (h : Reach K s t)
    (hrole : ¬ K.loose → t.cfg.role = .scalar) : Reach K s (handReading tag v d t) := by
  unfold handReading
  split
  · exact h
  · rename_i hlater
    have hl : ∀ l, t.acq.lastTag = some l → later (tagTime tag) l = true := by
      intro l e
      rw [e, Option.any_some, Bool.not_eq_true, Bool.not_eq_false'] at hlater
      exact hlater
    obtain ⟨b, r, w, e, hb, hf, hsec, hms⟩ := closeScalar_eq (tagTime tag) v t.acq.stepped d t
    have hr := handRecord_reach r { t.acq with lastTag := some (tagTime tag), stepped := false } h hf ⟨w, hb⟩ rfl rfl
      rfl rfl (.inr ⟨hrole, tag, hsec, hms, hl, rfl, rfl, rfl⟩)
    rw [e, ← setFlagIf_withAcq]
    exact hr.flagIf _ _

end Sys2Proof.Machine
end

section
/-! Each shared operation is made of moves (`Reach`): the sensor side, the windows and the acquisition. -/

namespace Sys2Proof.Machine

variable {K : Scope} {s t : State}

/-! ## The scalar cycles of the start -/

/-- A cycle that is measured or read is a SCALAR node's. -/
theorem Reach.cycling (h : Reach K s t) :
    ¬ K.loose → t.acq.measuring ≠ none ∨ t.acq.reading ≠ none → t.cfg.role = .scalar := fun hk hc =>
  hc.elim (fun e => h.scalar (.inr (.inl e)) hk) fun e => h.scalar (.inr (.inr (.inl e))) hk

/-- A POLARIZE cause is a SCALAR node's. -/
theorem Reach.caused (h : Reach K s t) :
    ¬ K.loose → ∀ c, t.win.own.cause = .polarize c → t.cfg.role = .scalar :=
  fun hk c e => h.scalar (.inr (.inr (.inr ⟨c, e⟩))) hk

/-! ## The steps and their pending directions (R110, R112) -/

theorem Triple.get_set {α : Type} (p : Triple α) (c d : Comp) (v : α) :
    (p.set c v).get d = if d = c then v else p.get d := by cases c <;> cases d <;> rfl

theorem stepsOk_iff (a : Acquisition) :
    StepsOk a ↔ ∀ c : Comp, ComponentLaw (a.steps.get c) (a.pendingDir.get c) := by
  constructor
  · rintro ⟨hx, hy, hz⟩ c
    cases c
    · exact hx
    · exact hy
    · exact hz
  · exact fun h => ⟨h .x, h .y, h .z⟩

/-- A pending direction leads inside the limit (R112). -/
theorem ComponentLaw.step {n : Int} {d : Dir} (h : ComponentLaw n (some d)) : ComponentLaw (n + d.sign) none := by
  obtain ⟨hlo, hhi, hup, hdown⟩ := h
  cases d with
  | up => have := hup rfl; exact ⟨by simp only [Dir.sign]; omega, by simp only [Dir.sign]; omega, by simp, by simp⟩
  | down => have := hdown rfl; exact ⟨by simp only [Dir.sign]; omega, by simp only [Dir.sign]; omega, by simp, by simp⟩

/-- A direction may become pending when the steps do not stand at its limit (R110). -/
theorem ComponentLaw.ask {n : Int} {d : Dir} (h : ComponentLaw n none) (hd : ¬ atLimit n d = true) :
    ComponentLaw n (some d) := by
  obtain ⟨hlo, hhi, -, -⟩ := h
  cases d with
  | up => refine ⟨hlo, hhi, fun _ => ?_, by simp⟩; simpa [atLimit] using hd
  | down => refine ⟨hlo, hhi, by simp, fun _ => ?_⟩; simpa [atLimit] using hd

theorem changeComponent_reach (c : Comp) (h : Reach K s t) : Reach K s (changeComponent c t) := by
  unfold changeComponent
  split
  · exact h
  · rename_i d hd
    refine commitNote_reach _ (h.acq _ ?_ id ?_ rfl rfl) (by simp)
    · rw [stepsOk_iff, stepsOk_iff]
      intro hs k
      simp only [Triple.get_set]
      split
      · subst k; exact (hd ▸ hs c).step
      · exact hs k
    · exact h.cycling

theorem changeIf_reach (set : Triple Bool) (c : Comp) (h : Reach K s t) : Reach K s (changeIf set c t) := by
  unfold changeIf
  split
  · exact changeComponent_reach c h
  · exact h

theorem compensationChange_reach (set : Triple Bool) (h : Reach K s t) : Reach K s (compensationChange set t) :=
  Reach.flagIf _ _ (changeIf_reach set .z (changeIf_reach set .y (changeIf_reach set .x h)))

/-! ## The scalar cycle (R119 to R122) -/

theorem cutOffCounting_reach (h : Reach K s t) : Reach K s (cutOffCounting t) := by
  unfold cutOffCounting
  split
  · rename_i hm
    exact handReading_reach _ _ _ h (h.scalar (.inr (.inl (by simp [hm]))))
  all_goals exact h

/-- The settings after a hand-over are those before it. -/
theorem cutOffCounting_cfg (u : State) : (cutOffCounting u).cfg = u.cfg := cfg_of_env (cutOffCounting_env u)

theorem polarizeOn_reach (w : NodeTime) (h : Reach K s t) (hrole : ¬ K.loose → t.cfg.role = .scalar) :
    Reach K s (polarizeOn w t) :=
  Reach.acq _ (cutOffCounting_reach h) id id (fun hk _ => (cutOffCounting_cfg t).symm ▸ hrole hk) rfl rfl

theorem openGate_reach (w : NodeTime) (h : Reach K s t) (hrole : ¬ K.loose → t.cfg.role = .scalar) :
    Reach K s (openGate w t) :=
  Reach.acq _ h id id (fun hk _ => hrole hk) rfl rfl

theorem skipCycle_reach (c : NodeTime) (h : Reach K s t) (hrole : ¬ K.loose → t.cfg.role = .scalar) :
    Reach K s (skipCycle c t) := (handReading_reach _ _ _ h hrole).flag _

theorem completeReading_reach (v : ScalarValue) (h : Reach K s t) : Reach K s (completeReading v t) := by
  unfold completeReading
  split
  · exact h
  · rename_i r hr
    exact Reach.acqOwn _ (handReading_reach _ v r.mark h (h.scalar (.inr (.inr (.inl (by simp [hr])))))) rfl rfl rfl rfl
      (.inl rfl) (.inr rfl) rfl

/-! ## The blanking list (R98 to R101) -/

theorem insertEntry_perm (w : Entry) (es : List Entry) : (insertEntry w es).Perm (w :: es) := by
  induction es with
  | nil => exact .refl _
  | cons e es ih =>
    unfold insertEntry
    split
    · exact .refl _
    · exact (ih.cons e).trans (.swap w e es)

/-- A window put in place of the entry of its window id, where the list has room (R98). -/
theorem listOk_insert {w : WindowUnit} {e : Entry} {l : List Entry} (hn : (l.map (·.id)).Nodup)
    (hlen : (without e.id l).length < Config.listSize) (hl : w.list = insertEntry e (without e.id l))
    (hh : w.held.length ≤ 4) : ListOk w := by
  have hp := insertEntry_perm e (without e.id l)
  have hsub : ((without e.id l).map (·.id)).Nodup := hn.sublist (List.filter_sublist.map _)
  refine ⟨?_, ?_, hh⟩
  · rw [hl, hp.length_eq, List.length_cons]; exact hlen
  · rw [hl, (hp.map _).nodup_iff, List.map_cons, List.nodup_cons]
    refine ⟨?_, hsub⟩
    simp [without]

theorem enterWindow_reach (w : Entry) (h : Reach K s t) : Reach K s (enterWindow w t) := by
  have hrole := h.caused
  unfold enterWindow
  dsimp only
  split
  · rename_i hlen
    exact h.win _ (fun ⟨_, hn, hh⟩ => listOk_insert hn hlen rfl hh) hrole
  · split
    · rename_i hh
      refine Reach.flag _ (h.win _ (fun ⟨hl, hn, _⟩ => ⟨hl, hn, ?_⟩) hrole)
      simpa [Nat.lt_succ_iff] using hh
    · exact Reach.flag _ (h.win _ id hrole)

/-- The entries over, or withdrawn, may leave; the oldest held window then takes its place (R100). -/
theorem freePlace_ok {r : NodeTime} {w : WindowUnit} (h : ListOk w) : ListOk (freePlace r w) := by
  obtain ⟨hl, hn, hh⟩ := h
  have hfilter : (w.held.filter fun e => later e.finish r).length ≤ 4 := (List.length_filter_le _ _).trans hh
  unfold freePlace
  dsimp only
  split
  · exact ⟨hl, hn, Nat.zero_le 4⟩
  · rename_i e es he
    rw [he, List.length_cons] at hfilter
    split
    · rename_i hlen
      exact listOk_insert hn hlen rfl (Nat.le_of_succ_le hfilter)
    · exact ⟨hl, hn, by rw [he]; exact hfilter⟩

theorem freePlace_own (r : NodeTime) (w : WindowUnit) : (freePlace r w).own = w.own := by
  unfold freePlace
  dsimp only
  split
  · rfl
  · split <;> rfl

/-- Entries and held windows leave. -/
theorem listOk_sublist {w w' : WindowUnit} (h : ListOk w) (hl : w'.list.Sublist w.list)
    (hh : w'.held.length ≤ w.held.length) : ListOk w' :=
  ⟨hl.length_le.trans h.1, h.2.1.sublist (hl.map _), hh.trans h.2.2⟩

theorem dropWindow_reach (id : WinId) (h : Reach K s t) : Reach K s (dropWindow id t) := by
  have hrole := h.caused
  unfold dropWindow
  dsimp only
  split
  · refine h.win _ (fun ho => freePlace_ok (listOk_sublist ho List.filter_sublist (List.length_filter_le _ _))) ?_
    rw [freePlace_own]; exact hrole
  · exact h.win _ (fun ho => listOk_sublist ho (.refl _) (List.length_filter_le _ _)) hrole

theorem markOverlapped_reach (w : Entry) (h : Reach K s t) : Reach K s (markOverlapped w t) :=
  Reach.flagIf _ _ (Reach.winOwn _ h rfl rfl (.inl rfl))

/-! ## The window queue (R71, R97) -/

theorem deferLost_reach (f : WinFrame) (h : Reach K s t) : Reach K s (deferLost f t) := by
  unfold deferLost
  split
  · split
    · exact h
    · dsimp only
      split
      · exact enterWindow_reach _ (markOverlapped_reach _ h)
      · exact markOverlapped_reach _ h
  all_goals exact h

/-- The queue replaced by one no longer. -/
theorem Reach.queue (q : List Queued) (h : Reach K s t) (hq : t.line.queue.length ≤ 4 → q.length ≤ 4) :
    Reach K s (t.withLine { t.line with queue := q }) := h.line _ hq (.inl rfl) fun _ hn => hn

/-- A frame that gives way leaves room for one. -/
theorem length_eraseP_append {p : Queued → Bool} {q : List Queued} {d new : Queued} (h : q.find? p = some d) :
    (q.eraseP p ++ [new]).length = q.length := by
  have hm := List.mem_of_find?_eq_some h
  have hl := List.length_eraseP_of_mem hm (List.find?_some h)
  have := List.length_pos_of_mem hm
  rw [List.length_append, hl, List.length_singleton]; omega

theorem joinQueue_reach (f : WinFrame) (h : Reach K s t) : Reach K s (joinQueue f t) := by
  unfold joinQueue
  dsimp only
  split
  · rename_i hlt
    exact h.queue _ fun _ => by simpa using hlt
  · split
    · rename_i d hd
      exact deferLost_reach _ (h.queue _ fun hq => by rw [length_eraseP_append hd]; exact hq)
    · split
      · rename_i d hd
        exact h.queue _ fun hq => by rw [length_eraseP_append hd]; exact hq
      · exact h

/-! ## The own window record (R81 to R91) -/

theorem handAsk_reach (h : Reach K s t) : Reach K s (handAsk t) :=
  joinQueue_reach _ (Reach.winOwn _ h rfl rfl (.inl rfl))

theorem compCause_reach (k : Comp) (h : Reach K s t) : Reach K s (compCause k t) := by
  unfold compCause
  dsimp only
  split
  · exact handAsk_reach (Reach.winOwn _ h rfl rfl (.inr (by simp)))
  · exact Reach.winOwn _ h rfl rfl (.inl rfl)
  all_goals
    split
    · exact Reach.winOwn _ h rfl rfl (.inr (by simp))
    all_goals exact h

theorem polarizeCause_reach (c : NodeTime) (h : Reach K s t) (hrole : ¬ K.loose → t.cfg.role = .scalar) :
    Reach K s (polarizeCause c t) := by
  unfold polarizeCause
  dsimp only
  split
  · have hw : Reach K s (t.withWin { t.win with own := { t.win.own with cause := .polarize c, attempts := 0 } }) :=
      h.win _ id fun hk _ _ => hrole hk
    exact handAsk_reach (Reach.acqOwn _ hw rfl rfl rfl rfl (.inl rfl) (.inl rfl) rfl)
  · exact skipCycle_reach c h hrole

theorem refuseOwn_reach (w : NodeTime) (sent : Bool) (h : Reach K s t) : Reach K s (refuseOwn w sent t) := by
  unfold refuseOwn
  have h1 := h.flag .ownDeferred
  have hjoin := joinQueue_reach (.withdraw (ownId t) (t.win.own.start.getD 0)) h1
  have h2 : Reach K s
      (if sent then
        if t.win.own.cause.cls = .compStep then
          dropWindow (ownId t) (joinQueue (.withdraw (ownId t) (t.win.own.start.getD 0)) (setFlag .ownDeferred t))
        else joinQueue (.withdraw (ownId t) (t.win.own.start.getD 0)) (setFlag .ownDeferred t)
      else setFlag .ownDeferred t) := by
    split
    · split
      · exact dropWindow_reach _ hjoin
      · exact hjoin
    · exact h1
  dsimp only
  generalize (if sent then _ else _ : State) = u at h2 ⊢
  split
  · exact Reach.winOwn _ h2 rfl rfl (.inl rfl)
  · rename_i c hc
    have hw : Reach K s (u.withWin { u.win with own := u.win.own.ended }) :=
      Reach.winOwn _ h2 rfl rfl (.inr (by simp [OwnWindow.ended]))
    exact skipCycle_reach c (Reach.acqOwn _ hw rfl rfl rfl rfl (.inl rfl) (.inl rfl) rfl)
      (h2.scalar (.inr (.inr (.inr ⟨c, hc⟩))))
  · exact Reach.winOwn _ h2 rfl rfl (.inr (by simp [OwnWindow.ended]))

theorem askSent_reach (forced : Bool) (delay : Nat) (h : Reach K s t) : Reach K s (askSent forced delay t) := by
  have hw := fun w hl hh hc => Reach.winOwn w h hl hh (.inl hc)
  unfold askSent
  dsimp only
  split
  · exact enterWindow_reach _ (hw _ rfl rfl rfl)
  · exact hw _ rfl rfl rfl

theorem saturationReport_reach (k : Comp) (h : Reach K s t) : Reach K s (saturationReport k t) := by
  have hu : Reach K s (t.withWin { t.win with own := { t.win.own with urgent := true } }) :=
    Reach.winOwn _ h rfl rfl (.inl rfl)
  unfold saturationReport
  dsimp only
  split
  · split
    · exact hu
    · exact hu
    · exact hu
    · split
      · exact hu
      · exact h
    · exact handAsk_reach hu
    · exact h
  · exact h

/-! ## The receiver's decision (R93 to R96) -/

theorem refuseAsk_reach (w : Entry) (lead : Nat) (e : NodeTime) (h : Reach K s t) :
    Reach K s (refuseAsk w lead e t) := by
  have hj := joinQueue_reach (.defer w lead e true false) h
  unfold refuseAsk
  dsimp only
  split
  · exact enterWindow_reach w hj
  · exact hj

theorem decideAsk_reach (w : Entry) (lead : Nat) (h : Reach K s t) : Reach K s (decideAsk w lead t) := by
  unfold decideAsk
  dsimp only
  split
  · exact enterWindow_reach w (markOverlapped_reach w h)
  · split
    · split
      · exact refuseAsk_reach w lead _ h
      · exact enterWindow_reach w (refuseOwn_reach _ _ h)
    · split
      · exact refuseAsk_reach w lead _ h
      · split
        · exact joinQueue_reach _ h
        · exact enterWindow_reach w h

theorem windowSent_reach (f : WinFrame) (forced : Bool) (delay : Nat) (h : Reach K s t) :
    Reach K s (windowSent f forced delay t) := by
  unfold windowSent
  split
  · exact askSent_reach forced delay h
  all_goals exact h

theorem windowDropped_reach (f : WinFrame) (h : Reach K s t) : Reach K s (windowDropped f t) := by
  unfold windowDropped
  split
  · exact refuseOwn_reach _ _ h
  · exact deferLost_reach _ h
  · exact h

/-! ## The window commands -/

theorem grant_reach (h : Reach K s t) : Reach K s (grant t) :=
  Reach.flagIf _ _ (Reach.winOwn _ h rfl rfl (.inl rfl))

theorem openWindow_reach (h : Reach K s t) : Reach K s (openWindow t) := by
  unfold openWindow
  dsimp only
  split
  · have hw := fun w hl hh hc => Reach.winOwn w h hl hh (.inr hc)
    exact compensationChange_reach _ (Reach.acqOwn _ (hw _ rfl rfl (by simp)) rfl rfl rfl rfl (.inl rfl) (.inl rfl) rfl)
  · rename_i c hc
    exact polarizeOn_reach _ (Reach.winOwn _ h rfl rfl (.inl rfl)) (h.scalar (.inr (.inr (.inr ⟨c, hc⟩))))
  · exact Reach.winOwn _ h rfl rfl (.inl rfl)

theorem removeWithdraws_reach (h : Reach K s t) : Reach K s (removeWithdraws t) := by
  unfold removeWithdraws
  split
  · exact h.queue _ (List.length_filter_le _ _).trans
  · exact h

theorem tellEnd_reach (h : Reach K s t) : Reach K s (tellEnd t) := by
  unfold tellEnd
  dsimp only
  split
  · rename_i c hc
    exact openGate_reach _ (Reach.winOwn _ h rfl rfl (.inl rfl)) (h.scalar (.inr (.inr (.inr ⟨c, hc⟩))))
  · have hw : Reach K s (t.withWin { t.win with ownProt := none }) := Reach.winOwn _ h rfl rfl (.inl rfl)
    exact Reach.acqOwn _ hw rfl rfl rfl rfl (.inl rfl) (.inl rfl) rfl
  · exact Reach.winOwn _ h rfl rfl (.inl rfl)

theorem afterEnd_reach (h : Reach K s t) : Reach K s (afterEnd t) := by
  unfold afterEnd
  dsimp only
  split
  · exact handAsk_reach (Reach.winOwn _ h rfl rfl (.inr (by simp)))
  · exact Reach.winOwn _ h rfl rfl (.inr (by simp [OwnWindow.ended]))

/-! ## Samples, probes and results (R106 to R116) -/

/-- The second being gathered keeps its number. -/
theorem Reach.gathered {g g' : Gathering} (h : Reach K s t) (hg : t.acq.gathering = some g) (hs : g'.second = g.second) :
    Reach K s (t.withAcq { t.acq with gathering := some g' }) := by
  refine h.acq _ id (fun ho g'' l e hl => ?_) ?_ rfl rfl
  · obtain rfl := Option.some.inj e
    exact hs ▸ ho g l hg hl
  · exact h.cycling

theorem accumulate_reach (c : Comp) (v : Serves) (k : SampleClass) (h : Reach K s t) :
    Reach K s (accumulate c v k t) := by
  unfold accumulate
  split
  · rename_i g hg
    split
    · exact h.gathered hg rfl
    · exact h
  · exact h

theorem nearRange_reach (c : Comp) (d : Dir) (h : Reach K s t) : Reach K s (nearRange c d t) := by
  unfold nearRange
  split
  · exact h
  · rename_i hd
    split
    · exact h.flag _
    · rename_i hlim
      refine compCause_reach c (h.acq _ ?_ id ?_ rfl rfl)
      · rw [stepsOk_iff, stepsOk_iff]
        intro hs k
        simp only [Triple.get_set]
        split
        · subst k; exact (hd ▸ hs c).ask hlim
        · exact hs k
      · exact h.cycling

theorem testCount_reach (c : Comp) (r : Int) (h : Reach K s t) : Reach K s (testCount c r t) := by
  have hn : Reach K s (if nearCount r then nearRange c (directionOf r) t else t) := by
    split
    · exact nearRange_reach c _ h
    · exact h
  unfold testCount
  dsimp only
  split
  · exact saturationReport_reach c (hn.flag _)
  · exact hn

theorem takeCount_reach (c : Comp) (smp : Sample) (r : Int) (h : Reach K s t) : Reach K s (takeCount c smp r t) := by
  unfold takeCount
  refine accumulate_reach c _ _ ?_
  split
  · exact testCount_reach c r h
  · exact h

theorem probeReading_reach (j : Nat) (n : Option Nat) (h : Reach K s t) : Reach K s (probeReading j n t) := by
  unfold probeReading
  dsimp only
  split
  · exact Reach.acqOwn _ h rfl rfl rfl rfl (.inl rfl) (.inl rfl) rfl
  · exact Reach.flagIf _ _ (Reach.acqOwn _ h rfl rfl rfl rfl (.inl rfl) (.inl rfl) rfl)

theorem missingResult_reach (job : Job) (h : Reach K s t) : Reach K s (missingResult job t) := by
  unfold missingResult
  split
  · exact accumulate_reach _ _ _ h
  · exact probeReading_reach _ _ h
  · exact completeReading_reach _ h

theorem arrivedResult_reach (job : Job) (ls : List Bool) (h : Reach K s t) : Reach K s (arrivedResult job ls t) := by
  unfold arrivedResult
  split
  · exact takeCount_reach _ _ _ h
  · exact probeReading_reach _ _ h
  · exact completeReading_reach _ h

/-- The converters' conversions, their numbers and the port changed. -/
theorem Reach.setConv (k : Converter) (x : Option Conversion) (h : Reach K s t) :
    Reach K s (t.withAcq (t.acq.setConv k x)) := Reach.acqOwn _ h rfl rfl rfl rfl (.inl rfl) (.inl rfl) rfl

theorem endConversion_reach (k : Converter) (h : Reach K s t) : Reach K s (endConversion k t) := by
  unfold endConversion
  split
  · exact h
  · exact missingResult_reach _ (h.setConv k none)

theorem beginSample_reach (a : BlankAnswer) (v : Serves) (c : Comp) (h : Reach K s t) :
    Reach K s (beginSample a v c t) :=
  Reach.acqOwn _ (endConversion_reach _ h) rfl rfl rfl rfl (.inl rfl) (.inl rfl) rfl

/-! ## Trigger instants, probe scans and the scalar cycle (R107, R115, R118, R120) -/

/-- The second that a collected instant begins is later than the last closed (R124). -/
theorem gatherAt_ok {n : Nat} {a : Acquisition} (ho : GatherOk a) {g : Gathering} {l : Nat}
    (e : (gatherAt n a).map Gathering.collect = some g) (hl : a.lastClosed = some l) :
    0 < secondsDifference g.second l := by
  simp only [Option.map_eq_some_iff] at e
  obtain ⟨g0, hg0, rfl⟩ := e
  show 0 < secondsDifference g0.second l
  unfold gatherAt at hg0
  split at hg0
  · rename_i hb
    obtain rfl := Option.some.inj hg0
    simp only [Bool.and_eq_true, afterLastClosed, hl, decide_eq_true_eq] at hb
    exact hb.1
  · exact ho g0 l hg0 hl

theorem trigger_reach (h : Reach K s t) : Reach K s (trigger t) := by
  unfold trigger
  refine beginSample_reach _ _ .z (beginSample_reach _ _ .y (beginSample_reach _ _ .x ?_))
  refine h.acq _ (fun ho => ⟨ho.1, ho.2.1, ho.2.2⟩) ?_ h.cycling rfl rfl
  split
  · exact fun ho g l e hl => gatherAt_ok ho e hl
  · exact fun ho g l => ho g l

theorem probeScan_reach (h : Reach K s t) : Reach K s (probeScan t) := by
  have hn := fun a hs hp hg hl hm hr ht => Reach.acqOwn a h hs hp hg hl (.inl hm) (.inl hr) ht
  exact Reach.acqOwn _ (endConversion_reach .tc (hn _ rfl rfl rfl rfl rfl rfl rfl)) rfl rfl rfl rfl (.inl rfl)
    (.inl rfl) rfl

theorem countEnd_reach (o f : NodeTime) (h : Reach K s t) (hrole : ¬ K.loose → t.cfg.role = .scalar) :
    Reach K s (countEnd o f t) :=
  Reach.acq _ (endConversion_reach .sc h) id id
    (fun hk _ => (cfg_of_env (endConversion_env .sc t)).symm ▸ hrole hk) rfl rfl

theorem endCount_reach (h : Reach K s t) : Reach K s (endCount t) := by
  unfold endCount
  split
  · rename_i hm
    split
    · exact countEnd_reach _ _ h (h.scalar (.inr (.inl (by simp [hm]))))
    · exact h
  all_goals exact h

theorem dropPhases_reach (h : Reach K s t) : Reach K s (dropPhases t) := Reach.winOwn _ h rfl rfl (.inl rfl)

end Sys2Proof.Machine
end

section
/-! Each shared operation is made of moves (`Reach`): requests and step events, round ends, pulses, the line, and at last
every command but ticks and restarts. -/

namespace Sys2Proof.Machine

variable {K : Scope} {s t : State}

/-! ## Step events and requests (R5 to R13) -/

theorem clampOffset_bound (v : Int) : (clampOffset v).natAbs ≤ 1000000000000 := by
  unfold clampOffset clampTo
  simp only [Config.offsetLimit]
  split_ifs <;> omega

/-- The reactions to a step event, as moves of one block each (R13). -/
theorem stepReactions_eq (c : Int) (u : State) :
    stepReactions c u = ((((u.withAgr (u.agr.onStep u.cfg u.reading c)).withRef (u.ref.onStep c)).withWin
      (u.win.onStep c)).withLine { u.line with queue := u.line.queue.map (Queued.onStep c) }).withAcq
        (u.acq.onStep u.cfg u.reading c) := rfl

theorem rowsOk_onStep (c : Int) {rows : List Row} (h : RowsOk rows) : RowsOk (rows.map (Row.onStep c)) := by
  intro r hr
  obtain ⟨r0, h0, rfl⟩ := List.mem_map.mp hr
  unfold Row.onStep
  dsimp only
  split
  · exact clampOffset_bound _
  · exact h r0 h0

theorem listOk_onStep (c : Int) {w : WindowUnit} (h : ListOk w) : ListOk (w.onStep c) := by
  obtain ⟨hl, hn, hh⟩ := h
  have hids : (w.list.map (Entry.onStep c)).map (·.id) = w.list.map (·.id) := by
    rw [List.map_map]; exact List.map_congr_left fun _ _ => rfl
  exact ⟨(List.length_map _).trans_le hl, by rw [WindowUnit.onStep, hids]; exact hn, (List.length_map _).trans_le hh⟩

theorem Cause.polarize_of_onStep {c : Int} {o : Cause} {x : NodeTime} (h : o.onStep c = .polarize x) :
    ∃ y, o = .polarize y := by
  cases o with
  | polarize y => exact ⟨y, rfl⟩
  | void => simp [Cause.onStep] at h
  | compStep set => simp [Cause.onStep] at h

theorem stepReactions_reach (c : Int) (h : Reach K s t) (ha : K.agr) (hr : K.ref) : Reach K s (stepReactions c t) := by
  have hagr := h.agr (t.agr.onStep t.cfg t.reading c) ha
    (by rw [Agreement.onStep, List.map_map]; exact List.map_congr_left fun _ _ => rfl) (rowsOk_onStep c)
  have hwin := (hagr.ref (t.ref.onStep c) hr).win (t.win.onStep c) (listOk_onStep c) fun hk x e =>
    h.scalar (.inr (.inr (.inr (Cause.polarize_of_onStep e)))) hk
  have hline := hwin.queue (t.line.queue.map (Queued.onStep c)) (List.length_map _).trans_le
  rw [stepReactions_eq]
  refine hline.acq _ (fun ho => ⟨ho.1, ho.2.1, ho.2.2⟩) (fun _ g l e => absurd e (by simp [Acquisition.onStep]))
    (fun hk e => h.cycling hk ?_) rfl rfl
  exact e.imp (fun e hn => e (by simp [Acquisition.onStep, hn])) fun e hn => e (by simp [Acquisition.onStep, hn])

theorem stepEvent_reach (c : Int) (h : Reach K s t) (ha : K.agr) (hr : K.ref) : Reach K s (stepEvent c t) :=
  (commitNote_reach _ (stepReactions_reach c h ha hr) (by simp)).flag _

theorem stateChanged_reach (old : Timebase) (h : Reach K s t) : Reach K s (stateChanged old t) :=
  Reach.flagIf _ _ (Reach.flagIf _ _ (commitNote_reach _ h (by simp)))

/-- A request that makes no step touches the clock, the ring and the flags alone. -/
theorem takeRequest_reach (q : Request) (h : Reach K s t) (hc : K.clock)
    (hs : ∀ c, q.stepMade t.cfg.period t.clock = some c → K.agr ∧ K.ref) : Reach K s (takeRequest q t) := by
  unfold takeRequest
  split
  · rename_i hq
    have h1 := h.request q hc hq
    have h2 : Reach K s (match q.stepMade t.cfg.period t.clock with
        | none => t.withClock (q.clockAfter t.cfg.period t.clock)
        | some c => stepEvent c (t.withClock (q.clockAfter t.cfg.period t.clock))) := by
      split
      · exact h1
      · rename_i c e
        exact stepEvent_reach c h1 (hs c e).1 (hs c e).2
    dsimp only
    split
    · exact h2
    · exact stateChanged_reach _ h2
  · exact h

/-! ## The Agreement Unit -/

theorem Row.discard_station (round : Round) (n : Nat) (r : Row) : (r.discard round n).station = r.station := by
  unfold Row.discard; split_ifs <;> rfl
theorem Row.discard_offset (round : Round) (n : Nat) (r : Row) : (r.discard round n).offset = r.offset := by
  unfold Row.discard; split_ifs <;> rfl
theorem Row.countDown_station (r : Row) : r.countDown.station = r.station := by unfold Row.countDown; split_ifs <;> rfl
theorem Row.countDown_offset (r : Row) : r.countDown.offset = r.offset := by unfold Row.countDown; split_ifs <;> rfl
theorem Row.grow_station (f : Bool) (r : Row) : (r.grow f).station = r.station := by
  unfold Row.grow; dsimp only; split_ifs <;> rfl
theorem Row.grow_offset (f : Bool) (r : Row) : (r.grow f).offset = r.offset ∨ (r.grow f).offset = 0 := by
  unfold Row.grow
  dsimp only
  split_ifs
  exacts [.inl rfl, .inr rfl, .inl rfl, .inl rfl]

/-- A round end leaves each row in its place (R23). -/
theorem Row.endRound_station (round : Round) (cfg : Settings) (e : NodeTime) (r : Row) :
    (r.endRound round cfg e).station = r.station := by
  unfold Row.endRound
  dsimp only
  rw [Row.grow_station]
  split
  · exact r.countDown_station
  · exact r.discard_station _ _

/-- A round end keeps a row's offset, or empties the row (R35). -/
theorem Row.endRound_offset (round : Round) (cfg : Settings) (e : NodeTime) (r : Row) :
    (r.endRound round cfg e).offset = r.offset ∨ (r.endRound round cfg e).offset = 0 := by
  unfold Row.endRound
  dsimp only
  refine (Row.grow_offset _ _).imp_left fun h => h.trans ?_
  split
  · exact r.countDown_offset
  · exact r.discard_offset _ _

theorem LineUnit.countRound_queue (l : LineUnit) :
    l.countRound.queue = l.queue ∧ l.countRound.generator = l.generator ∧ l.countRound.attempt = l.attempt := by
  unfold LineUnit.countRound; split <;> exact ⟨rfl, rfl, rfl⟩

theorem closeRound_reach (round : Round) (h : Reach K s t) (ha : K.agr) : Reach K s (closeRound round t) := by
  unfold closeRound
  refine Reach.flagIf _ _ (Reach.flagIf _ _ (Reach.lineOwn _ (h.agr _ ha ?_ ?_) (LineUnit.countRound_queue _).1
    (LineUnit.countRound_queue _).2.1 fun _ hn => (LineUnit.countRound_queue _).2.2.trans hn))
  · dsimp only
    rw [List.map_map]
    exact List.map_congr_left fun r _ => r.endRound_station _ _ _
  · intro ho r hr
    obtain ⟨r0, h0, rfl⟩ := List.mem_map.mp hr
    rcases r0.endRound_offset round t.cfg t.agr.nextRound with e | e
    · rw [e]; exact ho r0 h0
    · rw [e]; exact Nat.zero_le _

theorem roundEnd_reach (h : Reach K s t) (hc : K.clock) (ha : K.agr) (hr : K.ref) : Reach K s (roundEnd t) := by
  unfold roundEnd
  dsimp only
  split
  · exact closeRound_reach _ h ha
  · exact takeRequest_reach _ (closeRound_reach _ h ha) hc fun _ _ => ⟨ha, hr⟩

theorem handMark_reach (h : Reach K s t) (ha : K.agr) : Reach K s (handMark t) := by
  have h1 := h.agr { t.agr with lastMark := some t.agr.nextMark, nextMark := plus t.agr.nextMark (t.cfg.periodNs : Nat) } ha
    rfl fun ho => ho
  exact Reach.lineOwn _ h1 rfl rfl

theorem updateRow_station (k : Nat) (f : Row → Row) (hf : ∀ r, (f r).station = r.station) (rows : List Row) :
    (updateRow k f rows).map (·.station) = rows.map (·.station) := by
  unfold updateRow
  rw [List.map_map]
  refine List.map_congr_left fun r _ => ?_
  dsimp only [Function.comp]
  split
  · exact hf r
  · rfl

theorem takeMark_reach (k : Nat) (p : List Byte) (cap : Capture) (h : Reach K s t) (ha : K.agr) :
    Reach K s (takeMark k p cap t) := by
  unfold takeMark
  split
  · exact h
  · split
    · exact h
    · refine h.agr _ ha ?_ fun ho r hr => ?_
      · exact updateRow_station k (Row.measure _ _ _) (fun _ => rfl) _
      obtain ⟨r0, h0, rfl⟩ := List.mem_map.mp hr
      split
      · exact clampOffset_bound _
      · exact ho r0 h0

/-! ## The Reference Input -/

/-- A loss makes no step (R5, R6). -/
theorem countMiss_reach (h : Reach K s t) (hc : K.clock) (hr : K.ref) : Reach K s (countMiss t) := by
  unfold countMiss
  split
  · exact takeRequest_reach _ (h.ref _ hr) hc fun c e => absurd e (by simp [Request.stepMade, Request.correction])
  · exact h.ref _ hr

theorem acquire_reach (c : Int) (h : Reach K s t) (hc : K.clock) (ha : K.agr) (hr : K.ref) :
    Reach K s (acquire c t) := (takeRequest_reach _ (h.ref _ hr) hc fun _ _ => ⟨ha, hr⟩).flag _

theorem acquisitionPulse_reach (early : Bool) (e d : Int) (h : Reach K s t) (hc : K.clock) (ha : K.agr) (hr : K.ref) :
    Reach K s (acquisitionPulse early e d t) := by
  unfold acquisitionPulse
  split
  · exact acquire_reach _ h hc ha hr
  · exact h.ref _ hr

theorem acceptPulse_reach (e : Int) (l : Option Nat) (n : Nat) (h : Reach K s t) (hc : K.clock) (ha : K.agr)
    (hr : K.ref) : Reach K s (acceptPulse e l n t) := by
  have h0 := h.ref { t.ref with missCount := 0 } hr
  have hreq : ∀ q u, Reach K s u → Reach K s (takeRequest q u) := fun q u hu =>
    takeRequest_reach q hu hc fun _ _ => ⟨ha, hr⟩
  unfold acceptPulse
  dsimp only
  split
  · exact hreq _ _ h0
  · split
    · exact hreq _ _ (h0.ref _ hr)
    · split
      · exact (hreq _ _ (h0.ref _ hr)).flag _
      · exact hreq _ _ (h0.ref _ hr)

theorem takePulse_reach (h : Reach K s t) (hc : K.clock) (ha : K.agr) (hr : K.ref) : Reach K s (takePulse t) := by
  have h0 := h.ref (t.ref.met t.reading) hr
  unfold takePulse
  dsimp only
  split
  · split
    · exact countMiss_reach h0 hc hr
    · exact acceptPulse_reach _ _ _ h0 hc ha hr
  · exact acquisitionPulse_reach _ _ _ h0 hc ha hr

theorem absence_reach (h : Reach K s t) (hc : K.clock) (hr : K.ref) : Reach K s (absence t) := by
  unfold absence
  split
  · exact countMiss_reach (h.ref _ hr) hc hr
  · exact h.ref _ hr

/-! ## The Line Unit -/

theorem leadEdge_reach (h : Reach K s t) (ha : K.agr) : Reach K s (leadEdge t) := by
  have h1 := Reach.lineOwn (t.line.lead t.capture t.tick) h rfl rfl fun _ hn => by
    rw [LineUnit.lead, hn]; rfl
  have h2 := h1.agr { t.agr with stepSum := 0, roundCrossed := false } ha rfl fun ho => ho
  exact Reach.winOwn _ h2 rfl rfl (.inl rfl)

theorem endReception_reach (h : Reach K s t) : Reach K s (endReception t) := Reach.lineOwn _ h rfl rfl

theorem truncate_reach (h : Reach K s t) : Reach K s (truncate t) := Reach.lineOwn _ h rfl rfl

theorem LineUnit.muted_queue (l : LineUnit) :
    l.muted.queue = l.queue ∧ l.muted.generator = l.generator ∧ l.muted.attempt = l.attempt := by
  unfold LineUnit.muted; split <;> exact ⟨rfl, rfl, rfl⟩

theorem duplicate_reach (h : Reach K s t) : Reach K s (duplicate t) :=
  Reach.flag _ (Reach.lineOwn _ h (LineUnit.muted_queue _).1 (LineUnit.muted_queue _).2.1
    fun _ hn => (LineUnit.muted_queue _).2.2.trans hn)

/-- A frame taken is a duplicate, is delivered, or leaves all as it was (R55, R62). -/
theorem commitFrame_reach {k : Byte → Bool} {d : Frame → Reception → State → State} (h : Reach K s t)
    (hd : ∀ f r u, Reach K s u → Reach K s (d f r u)) : Reach K s (commitFrame k d t) := by
  unfold commitFrame
  split
  · exact h
  · dsimp only
    split
    · split
      · exact duplicate_reach (endReception_reach h)
      · exact hd _ _ _ (endReception_reach h)
    · exact h

theorem takeBlock_reach (f : Frame) (h : Reach K s t) (hk : K.corr) : Reach K s (takeBlock f t) := by
  unfold takeBlock
  split
  · rename_i hf
    clear hf
    generalize blockRecords f.payload = bss
    induction bss generalizing t with
    | nil => exact h
    | cons bs bss ih => exact ih (commitPeer_reach _ _ bs h hk)
  · exact h

theorem takeAsk_reach (f : Frame) (r : Reception) (h : Reach K s t) : Reach K s (takeAsk f r t) := by
  unfold takeAsk
  dsimp only
  split
  · exact h
  · split
    · exact decideAsk_reach _ _ (dropWindow_reach _ h)
    · exact h

theorem takeDefer_reach (f : Frame) (r : Reception) (h : Reach K s t) : Reach K s (takeDefer f r t) := by
  unfold takeDefer
  dsimp only
  split
  · split
    · split
      · exact h
      · exact refuseOwn_reach _ _ h
    · exact Reach.winOwn _ h rfl rfl (.inl rfl)
    all_goals exact h
  · exact h

theorem takeWithdraw_reach (f : Frame) (h : Reach K s t) : Reach K s (takeWithdraw f t) := by
  unfold takeWithdraw
  dsimp only
  split
  · exact dropWindow_reach _ (h.queue _ (List.length_map _).trans_le)
  · exact h

theorem takeRecall_reach (f : Frame) (h : Reach K s t) : Reach K s (takeRecall f t) := by
  unfold takeRecall
  split
  · exact startScan_reach _ _ h
  · exact h

theorem takeClear_reach (f : Frame) (h : Reach K s t) : Reach K s (takeClear f t) := by
  unfold takeClear
  split
  · exact h
  · split
    · exact h.clear _ _
    · exact h

theorem length_markFirst (q : List Queued) : (markFirst q).length = q.length := by cases q <;> rfl

theorem withAttempt_reach (a : Attempt) (h : Reach K s t) (hk : K.attempt) : Reach K s (withAttempt a t) :=
  Reach.lineOwn _ h rfl rfl fun hn => absurd hk hn

theorem startAttempt_reach (h : Reach K s t) (hk : K.attempt) : Reach K s (startAttempt t) := by
  unfold startAttempt
  split
  · exact withAttempt_reach _ (h.queue _ (length_markFirst _).trans_le) hk
  · split
    · exact withAttempt_reach _ h hk
    · split
      · exact withAttempt_reach _ h hk
      · split
        · exact withAttempt_reach _ (h.bank _ _ fun _ ho => RecordRing.bank_ok _ ho) hk
        · split
          · exact withAttempt_reach _ h hk
          · exact h

theorem length_eraseP_le (p : Queued → Bool) {q : List Queued} (h : q.length ≤ 4) : (q.eraseP p).length ≤ 4 :=
  List.eraseP_sublist.length_le.trans h

theorem reportSent_reach (a : Attempt) (h : Reach K s t) : Reach K s (reportSent a t) := by
  unfold reportSent
  split
  · split
    · exact h
    · exact windowSent_reach _ _ _ (h.queue _ (length_eraseP_le _))
  · exact Reach.lineOwn _ h rfl rfl
  · exact Reach.lineOwn _ h rfl rfl
  · exact bankReport_reach _ _ (Reach.lineOwn _ h rfl rfl)
  · exact recallReport_reach _ (Reach.lineOwn _ h rfl rfl)
  · exact assembleReply_reach h

theorem reportFailed_reach (a : Attempt) (n : Nat) (h : Reach K s t) : Reach K s (reportFailed a n t) := by
  unfold reportFailed
  split
  · split
    · exact h
    · split
      · exact deferLost_reach _ (h.queue _ (length_eraseP_le _))
      · exact h.queue _ (List.length_map _).trans_le
  · exact Reach.lineOwn _ h rfl rfl
  · exact Reach.lineOwn _ h rfl rfl
  · exact bankReport_reach _ _ (Reach.lineOwn _ h rfl rfl)
  · exact recallReport_reach _ (Reach.lineOwn _ h rfl rfl)
  · exact assembleReply_reach h

theorem reportDropped_reach (a : Attempt) (h : Reach K s t) : Reach K s (reportDropped a t) := by
  unfold reportDropped
  split
  · split
    · exact h
    · exact windowDropped_reach _ (h.queue _ (length_eraseP_le _))
  · exact Reach.lineOwn _ h rfl rfl
  · exact Reach.lineOwn _ h rfl rfl
  · exact bankReport_reach _ _ (Reach.lineOwn _ h rfl rfl)
  · exact recallReport_reach _ (Reach.lineOwn _ h rfl rfl)
  · exact assembleReply_reach h

theorem collide_reach (a : Attempt) (h : Reach K s t) : Reach K s (collide a t) := by
  have hj : Reach K s (t.withLine t.line.jamBegun) := Reach.lineOwn _ h rfl rfl fun _ _ => rfl
  unfold collide
  dsimp only
  split
  · exact (reportDropped_reach a hj).flag _
  · exact reportFailed_reach a _ (hj.line _ id (.inr rfl) fun _ hn => hn)

theorem LineUnit.released_queue (l : LineUnit) :
    l.released.queue = l.queue ∧ l.released.generator = l.generator ∧ l.released.attempt = l.attempt := by
  unfold LineUnit.released; split <;> exact ⟨rfl, rfl, rfl⟩

/-! ## Every command but ticks and restarts -/

theorem Reach.ite {b : Prop} [Decidable b] {u v : State} (hu : b → Reach K s u) (hv : Reach K s v) :
    Reach K s (if b then u else v) := by
  split
  · exact hu ‹_›
  · exact hv

/-- What a command may touch: the clock, the Reference Input, the Agreement Unit and the Correction Unit by its kind. -/
def scopeOf (loose : Prop) (c : Instr) : Scope :=
  { loose := loose
    clock := disciplines c = true
    ref := (∃ char stopLow, c = .labelCharacter char stopLow) ∨
      c ∈ [.roundEnd, .pulse, .absenceDeadline, .labelGap, .labelExpiry]
    agr := c ∈ [.roundEnd, .markInstant, .leadEdge, .markReceived, .pulse]
    corr := c ∈ [.blockReceived, .secondClosure]
    attempt := c = .attemptStart }

theorem execSecondClosure_reach (h : Reach K s s) (hk : K.corr) :
    ∃ t, execSecondClosure s = .next t ∧ Reach K s t := by
  refine ⟨_, rfl, ?_⟩
  split
  · rename_i g hg
    refine Reach.ite (fun hd => closure_reach h hk hg ?_) h
    simp only [closureDue, Bool.and_eq_true, decide_eq_true_eq] at hd
    exact hd.1.2
  · exact h

theorem execAskInstant_reach (h : Reach K s s) : ∃ t, execAskInstant s = .next t ∧ Reach K s t := by
  refine ⟨_, rfl, ?_⟩
  split
  · rename_i hd
    simp only [askDue, Bool.and_eq_true, decide_eq_true_eq] at hd
    refine polarizeCause_reach _ ?_ fun _ => (State.withAcq_cfg s _).symm ▸ hd.1.2
    exact h.acqOwn _ rfl rfl rfl rfl (.inl rfl) (.inl rfl) rfl
  · exact h

/-- A change of a converter's conversions, the port and its queue alone. -/
theorem Reach.port (a : Acquisition) (h : Reach K s t)
    (ha : a = { t.acq with conversions := a.conversions, port := a.port, portQueue := a.portQueue }) :
    Reach K s (t.withAcq a) := by
  rw [ha]
  exact Reach.acqOwn _ h rfl rfl rfl rfl (.inl rfl) (.inl rfl) rfl

theorem execTransferBegin_reach (h : Reach K s s) : ∃ t, execTransferBegin s = .next t ∧ Reach K s t := by
  refine ⟨_, rfl, ?_⟩
  split
  · exact Reach.ite (fun _ => h.port _ rfl) h
  · exact h

theorem execStartComplete_reach (h : Reach K s s) : ∃ t, execStartComplete s = .next t ∧ Reach K s t := by
  refine ⟨_, rfl, ?_⟩
  split
  · exact h
  · dsimp only
    split
    · exact h.port _ rfl
    · exact h.port _ rfl

theorem execPoll_reach (k : Converter) (h : Reach K s s) : ∃ t, execPoll k s = .next t ∧ Reach K s t := by
  refine ⟨_, rfl, ?_⟩
  split
  · exact h
  · split
    · exact h
    · exact Reach.ite (fun _ => h.port _ rfl) h

theorem execPollComplete_reach (ls : List Bool) (h : Reach K s s) :
    ∃ t, execPollComplete ls s = .next t ∧ Reach K s t := by
  refine ⟨_, rfl, ?_⟩
  split
  · exact h
  · dsimp only
    split
    · exact h.port _ rfl
    · exact Reach.ite (fun _ => h.port _ rfl) (h.port _ rfl)

theorem execResultArrival_reach (ls : List Bool) (h : Reach K s s) :
    ∃ t, execResultArrival ls s = .next t ∧ Reach K s t := by
  refine ⟨_, rfl, ?_⟩
  split
  · exact h
  · dsimp only
    split
    · exact h.port _ rfl
    · exact arrivedResult_reach _ _ (h.port _ rfl)

theorem execConversionDeadline_reach (k : Converter) (h : Reach K s s) :
    ∃ t, execConversionDeadline k s = .next t ∧ Reach K s t := by
  refine ⟨_, rfl, ?_⟩
  split
  · exact h
  · exact Reach.ite (fun _ => endConversion_reach k h) h

theorem execEntryEnd_reach (h : Reach K s s) : ∃ t, execEntryEnd s = .next t ∧ Reach K s t := by
  refine ⟨_, rfl, Reach.ite (fun _ => h.win _ (fun ho => freePlace_ok (listOk_sublist ho List.eraseP_sublist
    (Nat.le_refl _))) ?_) h⟩
  rw [freePlace_own]
  exact h.caused

theorem execHeldWindowExpiry_reach (h : Reach K s s) : ∃ t, execHeldWindowExpiry s = .next t ∧ Reach K s t :=
  ⟨_, rfl, Reach.ite (fun _ => h.win _ (fun ho => listOk_sublist ho (.refl _) List.eraseP_sublist.length_le) h.caused) h⟩

theorem execDeferDeadline_reach (h : Reach K s s) : ∃ t, execDeferDeadline s = .next t ∧ Reach K s t := by
  refine ⟨_, rfl, Reach.ite (fun _ => ?_) h⟩
  split
  · exact h
  · exact deferLost_reach _ (h.queue _ (length_eraseP_le _))

theorem execFrameSent_reach (h : Reach K s s) : ∃ t, execFrameSent s = .next t ∧ Reach K s t := by
  refine ⟨_, rfl, ?_⟩
  split
  · exact h
  · exact reportSent_reach _ (Reach.lineOwn _ h rfl rfl fun _ _ => rfl)

theorem execCollision_reach (h : Reach K s s) : ∃ t, execCollision s = .next t ∧ Reach K s t := by
  refine ⟨_, rfl, ?_⟩
  split
  · exact h
  · exact collide_reach _ h

/-- Every command but ticks and restarts is made of moves within its scope. -/
theorem exec_reach {loose : Prop} (c : Instr) (s : State) (hr : restarts c = false)
    (ht : ∀ pins, c ≠ .oscillatorTick pins) (h : Reach (scopeOf loose c) s s) :
    ∃ t, exec c s = .next t ∧ Reach (scopeOf loose c) s t := by
  cases c with
  | oscillatorTick pins => exact absurd rfl (ht pins)
  | powerOnReset | powerOnRelease _ | externalReset | resetPinRelease _ | imageRead _ => exact absurd hr (by simp [restarts])
  | roundEnd => exact ⟨_, rfl, .ite (fun _ => roundEnd_reach h rfl (by simp [scopeOf]) (by simp [scopeOf])) h⟩
  | markInstant => exact ⟨_, rfl, .ite (fun _ => handMark_reach h (by simp [scopeOf])) h⟩
  | leadEdge => exact ⟨_, rfl, .ite (fun _ => leadEdge_reach h (by simp [scopeOf])) h⟩
  | receiverReady => exact ⟨_, rfl, .ite (fun _ => .lineOwn _ h rfl rfl) h⟩
  | receptionTruncated => exact ⟨_, rfl, .ite (fun _ => truncate_reach h) h⟩
  | checkFailed => exact ⟨_, rfl, .ite (fun _ => endReception_reach h) h⟩
  | markReceived => exact ⟨_, rfl, commitFrame_reach h fun _ _ _ hu => takeMark_reach _ _ _ hu (by simp [scopeOf])⟩
  | blockReceived => exact ⟨_, rfl, commitFrame_reach h fun _ _ _ hu => takeBlock_reach _ hu (by simp [scopeOf])⟩
  | stateReceived => exact ⟨_, rfl, commitFrame_reach h fun _ _ _ hu => hu⟩
  | askReceived => exact ⟨_, rfl, commitFrame_reach h fun _ _ _ hu => takeAsk_reach _ _ hu⟩
  | deferReceived => exact ⟨_, rfl, commitFrame_reach h fun _ _ _ hu => takeDefer_reach _ _ hu⟩
  | withdrawReceived => exact ⟨_, rfl, commitFrame_reach h fun _ _ _ hu => takeWithdraw_reach _ hu⟩
  | recallReceived => exact ⟨_, rfl, commitFrame_reach h fun _ _ _ hu => takeRecall_reach _ hu⟩
  | clearReceived => exact ⟨_, rfl, commitFrame_reach h fun _ _ _ hu => takeClear_reach _ hu⟩
  | unknownKindReceived => exact ⟨_, rfl, commitFrame_reach h fun _ _ _ hu => hu⟩
  | attemptStart => exact ⟨_, rfl, .ite (fun _ => startAttempt_reach h rfl) h⟩
  | frameSent => exact execFrameSent_reach h
  | collision => exact execCollision_reach h
  | jamEnd => exact ⟨_, rfl, .ite (fun _ => .lineOwn _ h rfl rfl) h⟩
  | backoffEnd => exact ⟨_, rfl, .ite (fun _ => .lineOwn _ h rfl rfl) h⟩
  | stuckLimit => exact ⟨_, rfl, .ite (fun _ => .flag _ (.lineOwn _ h rfl rfl)) h⟩
  | stuckRelease =>
    exact ⟨_, rfl, .ite (fun _ => .lineOwn _ h (LineUnit.released_queue _).1 (LineUnit.released_queue _).2.1
      fun _ hn => (LineUnit.released_queue _).2.2.trans hn) h⟩
  | deferDeadline => exact execDeferDeadline_reach h
  | pulse => exact ⟨_, rfl, .ite (fun _ => takePulse_reach h rfl (by simp [scopeOf]) (by simp [scopeOf])) h⟩
  | absenceDeadline => exact ⟨_, rfl, .ite (fun _ => absence_reach h rfl (by simp [scopeOf])) h⟩
  | labelCharacter char stopLow => exact ⟨_, rfl, .ite (fun _ => .ref _ h (.inl ⟨char, stopLow, rfl⟩)) h⟩
  | labelGap => exact ⟨_, rfl, .ite (fun _ => .ref _ h (by simp [scopeOf])) h⟩
  | labelExpiry => exact ⟨_, rfl, .ite (fun _ => .ref _ h (by simp [scopeOf])) h⟩
  | responseEnd => exact ⟨_, rfl, .ite (fun _ => grant_reach h) h⟩
  | windowStart => exact ⟨_, rfl, .ite (fun _ => openWindow_reach (removeWithdraws_reach h)) (removeWithdraws_reach h)⟩
  | windowEnd => exact ⟨_, rfl, .ite (fun _ => afterEnd_reach (tellEnd_reach h)) h⟩
  | waitEnd => exact ⟨_, rfl, .ite (fun _ => handAsk_reach h) h⟩
  | entryEnd => exact execEntryEnd_reach h
  | blankAllEnd => exact ⟨_, rfl, .ite (fun _ => .winOwn _ h rfl rfl (.inl rfl)) h⟩
  | heldWindowExpiry => exact execHeldWindowExpiry_reach h
  | triggerInstant => exact ⟨_, rfl, .ite (fun _ => trigger_reach h) h⟩
  | transferBegin => exact execTransferBegin_reach h
  | startComplete => exact execStartComplete_reach h
  | poll conv => exact execPoll_reach conv h
  | pollComplete levels => exact execPollComplete_reach levels h
  | resultArrival levels => exact execResultArrival_reach levels h
  | conversionDeadline conv => exact execConversionDeadline_reach conv h
  | secondClosure => exact execSecondClosure_reach h (by simp [scopeOf])
  | probeScan => exact ⟨_, rfl, .ite (fun _ => probeScan_reach h) h⟩
  | askInstant => exact execAskInstant_reach h
  | countEnd => exact ⟨_, rfl, .ite (fun _ => dropPhases_reach (endCount_reach h)) h⟩
  | alarmRelease => exact ⟨_, rfl, .ite (fun _ => .alarm _ h rfl rfl) h⟩
  | statePeriodExpiry => exact ⟨_, rfl, .ite (fun _ => periodicState_reach h) h⟩

end Sys2Proof.Machine
end

section
/-! The statements of the whole node: what no command touches, and what a held node takes (R1, R183, R184). -/

namespace Sys2Proof.Machine

/-! ## The held node (R183) -/

theorem running_eq_false {s : State} (h : s.loader.phase ≠ .running) : s.running = false := decide_eq_false h

/-- A transfer ends at a started node alone (R183). -/
theorem transferDone_held {s : State} (h : s.running = false) (k : TransferKind) : transferDone k s = none := by
  unfold transferDone
  split
  · simp [h]
  · rfl

theorem commitFrame_held {s : State} (h : s.running = false) (k : Byte → Bool)
    (d : Frame → Reception → State → State) : commitFrame k d s = s := by
  unfold commitFrame
  split
  · rfl
  · simp [h]

theorem sentDue_held {s : State} (h : s.running = false) : sentDue s = none := by
  unfold sentDue
  split
  · rfl
  · simp [h]

theorem collisionDue_held {s : State} (h : s.running = false) : collisionDue s = none := by
  unfold collisionDue
  split
  · rfl
  · simp [h]

/-- Settles O6: each command is taken by a started node alone, but for ticks, the alarm's release and restarts. -/
theorem heldNodeTakesNothing : Obligations.HeldNodeTakesNothing := by
  intro c s hp hr ht ha
  have h := running_eq_false hp
  cases c with
  | oscillatorTick pins => exact absurd rfl (ht pins)
  | alarmRelease => exact absurd rfl ha
  | powerOnReset | powerOnRelease _ | externalReset | resetPinRelease _ | imageRead _ =>
    exact absurd hr (by simp [restarts])
  | markReceived | blockReceived | stateReceived | askReceived | deferReceived | withdrawReceived | recallReceived
  | clearReceived | unknownKindReceived => exact congrArg Host.Outcome.next (commitFrame_held h _ _)
  | roundEnd => simp [exec, execRoundEnd, roundDue, h]
  | markInstant => simp [exec, execMarkInstant, markDue, h]
  | leadEdge => simp [exec, execLeadEdge, h]
  | receiverReady => simp [exec, execReceiverReady, readyDue, h]
  | receptionTruncated => simp [exec, execReceptionTruncated, truncationDue, h]
  | checkFailed => simp [exec, execCheckFailed, checkFailDue, h]
  | attemptStart => simp [exec, execAttemptStart, allowsStart, h]
  | frameSent => simp [exec, execFrameSent, sentDue_held h]
  | collision => simp [exec, execCollision, collisionDue_held h]
  | jamEnd => simp [exec, execJamEnd, h]
  | backoffEnd => simp [exec, execBackoffEnd, h]
  | stuckLimit => simp [exec, execStuckLimit, stuckDue, h]
  | stuckRelease => simp [exec, execStuckRelease, releaseDue, h]
  | deferDeadline => simp [exec, execDeferDeadline, h]
  | pulse => simp [exec, execPulse, h]
  | absenceDeadline => simp [exec, execAbsenceDeadline, absenceDue, h]
  | labelCharacter char stopLow => simp [exec, execLabelCharacter, h]
  | labelGap => simp [exec, execLabelGap, gapDue, h]
  | labelExpiry => simp [exec, execLabelExpiry, expiryDue, h]
  | responseEnd => simp [exec, execResponseEnd, responseDue, h]
  | windowStart => simp [exec, execWindowStart, startDue, removeWithdraws, h]
  | windowEnd => simp [exec, execWindowEnd, endDue, h]
  | waitEnd => simp [exec, execWaitEnd, waitDue, h]
  | entryEnd => simp [exec, execEntryEnd, h]
  | blankAllEnd => simp [exec, execBlankAllEnd, h]
  | heldWindowExpiry => simp [exec, execHeldWindowExpiry, h]
  | triggerInstant => simp [exec, execTriggerInstant, triggerDue, h]
  | transferBegin => simp only [exec, execTransferBegin, h]; split <;> simp
  | startComplete => simp [exec, execStartComplete, transferDone_held h]
  | poll conv => simp only [exec, execPoll, h]; split <;> [rfl; split] <;> simp
  | pollComplete levels => simp [exec, execPollComplete, transferDone_held h]
  | resultArrival levels => simp [exec, execResultArrival, transferDone_held h]
  | conversionDeadline conv => simp only [exec, execConversionDeadline, h]; split <;> simp
  | secondClosure => simp only [exec, execSecondClosure, closureDue, h]; split <;> simp
  | probeScan => simp [exec, execProbeScan, scanDue, h]
  | askInstant => simp [exec, execAskInstant, askDue, h]
  | countEnd => simp [exec, execCountEnd, h]
  | statePeriodExpiry => simp [exec, execStatePeriodExpiry, periodExpired, h]

/-! ## A step (R184) -/

/-- Settles O1, by the two branches of a step and the stage that a node outside its start sequence does not take. -/
theorem stepTakesTheFrontCommand : Obligations.StepTakesTheFrontCommand := by
  refine ⟨fun c rest s h => ?_, fun s h hn => ?_, fun s h _ => ?_⟩
  · rw [step, h]
  · rw [step, h]; exact congrArg _ (takeStage_of_not_starting hn)
  · rw [step, h]

/-! ## Every command completes -/

/-- Every command but ticks and restarts is made of moves, from any state. -/
theorem exec_reach_loose (c : Instr) (s : State) (hr : restarts c = false)
    (ht : ∀ pins, c ≠ .oscillatorTick pins) : ∃ t, exec c s = .next t ∧ Reach (scopeOf True c) s t :=
  exec_reach c s hr ht (.start fun h => absurd trivial h)

theorem stagesThrough_pending (n : Nat) (s : State) : (stagesThrough n s).pending = s.pending :=
  (takeStages_pending _ _).1

theorem beginStart_pending (p : Straps) (n : Nat) (s : State) : (beginStart p n s).pending = s.pending := by
  unfold beginStart
  dsimp only
  split
  · rfl
  · rw [stagesThrough_pending]; rfl

/-- Settles O2: a command is made of moves, which touch no command that waits, or is a tick or a restart. -/
theorem everyCommandCompletes : Obligations.EveryCommandCompletes := by
  intro c s
  by_cases hr : restarts c = false
  · by_cases ht : ∃ pins, c = .oscillatorTick pins
    · obtain ⟨pins, rfl⟩ := ht
      refine ⟨_, rfl, ?_⟩
      show (if s.running then runTick pins s else s).pending = s.pending
      split <;> rfl
    · obtain ⟨t, e, h⟩ := exec_reach_loose c s hr (fun pins e => ht ⟨pins, e⟩)
      exact ⟨t, e, h.pending⟩
  · cases c with
    | powerOnReset => exact ⟨_, rfl, rfl⟩
    | externalReset => refine ⟨_, rfl, ?_⟩; split <;> rfl
    | powerOnRelease b | resetPinRelease b =>
      refine ⟨_, rfl, ?_⟩
      split
      · dsimp only
        split
        · rfl
        · rw [beginStart_pending]; rfl
      · rfl
    | imageRead i =>
      refine ⟨_, rfl, ?_⟩
      split
      · exact stagesThrough_pending _ _
      · rfl
    | _ => exact absurd rfl hr

/-! ## What a command may change -/

/-- A tick changes the label input's start bit alone (R46). -/
theorem labelTick_frame (low : Bool) (reading : Nat) (r : RefInput) :
    r.labelTick low reading = { r with
      pinLow := (r.labelTick low reading).pinLow, charBegun := (r.labelTick low reading).charBegun
      labelRx := (r.labelTick low reading).labelRx } := by
  unfold RefInput.labelTick; split <;> rfl

/-- Settles O3: each command but a tick is made of moves within its scope; a tick advances the clock and counts the label
input's level. -/
theorem onlyTheseChangeTheBlocks : Obligations.OnlyTheseChangeTheBlocks := by
  intro c s t hr he
  by_cases ht : ∃ pins, c = .oscillatorTick pins
  · obtain ⟨pins, rfl⟩ := ht
    obtain rfl := Host.Outcome.next.inj he
    have hn : ∀ {p : Prop}, (∀ q, Instr.oscillatorTick pins ≠ .oscillatorTick q) → p := fun h => absurd rfl (h pins)
    by_cases hrun : s.running = true
    · simp only [hrun, if_true]
      exact ⟨rfl, hn, fun _ => hn, fun _ _ => ⟨labelTick_frame _ _ _, hn⟩, fun _ => rfl, fun _ => rfl⟩
    · simp only [hrun]
      exact ⟨rfl, hn, fun _ => hn, fun _ _ => ⟨rfl, hn⟩, fun _ => rfl, fun _ => rfl⟩
  · obtain ⟨u, e, h⟩ := exec_reach_loose c s hr (fun pins e => ht ⟨pins, e⟩)
    obtain rfl : u = t := Host.Outcome.next.inj (e.symm.trans he)
    refine ⟨h.cfg, fun _ => ⟨h.tick, h.loader⟩, fun hd _ => h.clock_eq (by simp [scopeOf, hd]), fun hl hc => ?_,
      fun hc => h.agr_eq hc, fun hc => h.corr_eq hc⟩
    have href : u.ref = s.ref := h.ref_eq fun hk => hk.elim (fun ⟨a, b, e⟩ => hl a b e) hc
    exact ⟨by rw [href], fun _ => href⟩

end Sys2Proof.Machine
end

section
/-! What a step of the node can be: a tick, moves within a scope, a stage of the start sequence, a reset, or a change of
the Start Loader with the stages behind it. A law kept by each of these is kept by every step. -/

namespace Sys2Proof.Machine

/-! ## The restarts (R180, R181, R184) -/

/-- What the end of a reset or of the image read makes of the loader before any stage is taken. -/
structure LoaderMove (l l' : Loader) : Prop where
  before : l.powerOn = true ∨ l.ext = true ∨ l.phase = .readingImage
  powerOn : l'.powerOn = true → l.powerOn = true
  ext : l'.ext = true → l.ext = true
  phase : l'.phase = l.phase ∨
    ((l'.phase = .readingImage ∨ l'.phase = .starting .verdict) ∧
      (l.phase = .readingImage ∨ l'.powerOn = false ∧ l'.ext = false))
  straps : l.straps.station ≤ 15 → l'.straps.station ≤ 15

/-- A loader moved so stands before no other stage than the verdict, or where it stood. -/
theorem LoaderMove.phase_eq {l l' : Loader} (h : LoaderMove l l') {p : Phase} (hp : l'.phase = p)
    (hr : p ≠ .readingImage) (hv : p ≠ .starting .verdict) : l.phase = p := by
  rcases h.phase with e | ⟨e | e, -⟩
  · exact e.symm.trans hp
  · exact absurd (hp.symm.trans e) hr
  · exact absurd (hp.symm.trans e) hv

/-- The tick of a started node, or of one that is held (R3, R180, R181). -/
def ticked (pins : TickPins) (s : State) : State :=
  { (if s.running then runTick pins s else s) with tick := s.tick + 1, loader := s.loader.tick pins }

/-- The node as a power-on reset leaves it (R180 to R182). -/
def poweredOn (s : State) : State :=
  resetBlocks (Triple.all 0) RecordRing.afterPowerOn
    { Loader.afterPowerOn with ext := s.loader.ext, pinHigh := s.loader.pinHigh } s

/-- The node as an external reset leaves it (R180 to R182). -/
def resetExternally (s : State) : State :=
  resetBlocks s.acq.steps s.ring.afterExternal
    { s.loader with
      phase := .held, ext := true, verdict := .defaults, image := []
      pendingCause := if s.loader.begun then .external else s.loader.pendingCause } s

/-- A property of states that each part of a reset and of the start sequence keeps. -/
structure KeptByRestarts (p : State → Prop) : Prop where
  stage : ∀ s, p s → p (takeStage s)
  powerOn : ∀ s, p s → p (poweredOn s)
  external : ∀ s, p s → p (resetExternally s)
  loader : ∀ s l, LoaderMove s.loader l → p s → p (s.withLoader l)

/-- A property of states that each part of a step keeps. -/
structure Kept (p : State → Prop) : Prop extends KeptByRestarts p where
  pending : ∀ s v, p s → p (s.withPending v)
  tick : ∀ pins s, p s → p (ticked pins s)
  reach : ∀ c s t, restarts c = false → (∀ pins, c ≠ .oscillatorTick pins) → exec c s = .next t →
    Reach (scopeOf True c) s t → p s → p t

section
variable {p : State → Prop}

theorem KeptByRestarts.stages (h : KeptByRestarts p) (n : Nat) {s : State} (hs : p s) : p (takeStages n s) :=
  takeStages_keeps h.stage n hs

/-- A start sequence that begins keeps what the parts of a step keep. -/
theorem KeptByRestarts.begin (h : KeptByRestarts p) (b : Straps) (n : Nat) {s : State} {l : Loader} (hs : p s)
    (hb : s.loader.powerOn = true ∨ s.loader.ext = true) (hp : l.powerOn = false) (he : l.ext = false) :
    p (beginStart b n (s.withLoader l)) := by
  have hmove : ∀ l' : Loader, l'.powerOn = false → l'.ext = false →
      (l'.phase = .readingImage ∨ l'.phase = .starting .verdict) → l'.straps = strapsRead b → p (s.withLoader l') := by
    intro l' hp' he' hph hst
    refine h.loader s l' ⟨hb.imp_right .inl, ?_, ?_, .inr ⟨hph, .inr ⟨hp', he'⟩⟩, fun _ => ?_⟩ hs
    · rw [hp']; exact fun e => absurd e (by decide)
    · rw [he']; exact fun e => absurd e (by decide)
    · rw [hst]; exact Nat.le_of_lt_succ (Nat.mod_lt _ (by decide))
  unfold beginStart
  dsimp only
  split
  · exact hmove _ hp he (.inl rfl) rfl
  · exact h.stages _ (hmove _ hp he (.inr rfl) rfl)

/-- The end of one reset, the other in force or not (R180, R181, R184). -/
theorem KeptByRestarts.release (h : KeptByRestarts p) (b : Begin) {s : State} {l : Loader} {other : Bool} (hs : p s)
    (hb : s.loader.powerOn = true ∨ s.loader.ext = true) (hother : other = true → LoaderMove s.loader l)
    (hend : other = false → l.powerOn = false ∧ l.ext = false) :
    p (if other then s.withLoader l else beginStart b.straps b.through (s.withLoader l)) := by
  cases other with
  | true => exact h.loader s l (hother rfl) hs
  | false => exact h.begin b.straps b.through hs hb (hend rfl).1 (hend rfl).2

/-- Every reset and every end of a reset keeps what its parts keep. -/
theorem KeptByRestarts.exec (h : KeptByRestarts p) {c : Instr} {s t : State} (hr : restarts c = true) (hs : p s)
    (he : exec c s = .next t) : p t := by
  cases c with
  | powerOnReset => obtain rfl := Host.Outcome.next.inj he; exact h.powerOn s hs
  | externalReset =>
    obtain rfl := Host.Outcome.next.inj he
    split
    · exact h.external s hs
    · exact hs
  | powerOnRelease b =>
    obtain rfl := Host.Outcome.next.inj he
    split
    · rename_i hd
      simp only [powerOnDone, Bool.and_eq_true] at hd
      exact h.release b hs (.inl hd.1) (fun _ => ⟨.inl hd.1, fun e => absurd e Bool.false_ne_true, id, .inl rfl, id⟩)
        fun ho => ⟨rfl, ho⟩
    · exact hs
  | resetPinRelease b =>
    obtain rfl := Host.Outcome.next.inj he
    split
    · rename_i hd
      simp only [pinReleased, Bool.and_eq_true] at hd
      exact h.release b hs (.inr hd.1) (fun _ => ⟨.inr (.inl hd.1), id, fun e => absurd e Bool.false_ne_true, .inl rfl, id⟩)
        fun ho => ⟨ho, rfl⟩
    · exact hs
  | imageRead i =>
    obtain rfl := Host.Outcome.next.inj he
    split
    · rename_i hd
      simp only [imageDue, Bool.and_eq_true, decide_eq_true_eq] at hd
      exact h.stages _ (h.loader s _ ⟨.inr (.inr hd.1), id, id, .inr ⟨.inr rfl, .inl hd.1⟩, id⟩ hs)
    · exact hs
  | _ => exact absurd hr Bool.false_ne_true

/-- Every command keeps what the parts of a step keep. -/
theorem Kept.exec (h : Kept p) (c : Instr) (s t : State) (hs : p s) (he : exec c s = .next t) : p t := by
  by_cases hr : restarts c = false
  · by_cases ht : ∃ pins, c = .oscillatorTick pins
    · obtain ⟨pins, rfl⟩ := ht
      obtain rfl := Host.Outcome.next.inj he
      exact h.tick pins s hs
    · obtain ⟨u, e, hu⟩ := exec_reach_loose c s hr fun pins e => ht ⟨pins, e⟩
      obtain rfl := Host.Outcome.next.inj (e.symm.trans he)
      exact h.reach c s u hr (fun pins e => ht ⟨pins, e⟩) he hu hs
  · exact h.toKeptByRestarts.exec (by simpa using hr) hs he

/-- Every step keeps what its parts keep. -/
theorem Kept.step (h : Kept p) (s t : State) (hs : p s) (he : Machine.step s = .next t) : p t := by
  unfold Machine.step at he
  split at he
  · obtain rfl := Host.Outcome.next.inj he
    exact h.stage s hs
  · exact h.exec _ _ t (h.pending s _ hs) he

end

/-! ## What a stage of the start may do (R184) -/

/-- A stage moves the loader, loads every block, sets START flags, commits the RESET note, or starts the clock. -/
theorem takeStage_cases {q : State → State → Prop}
    (hidle : ∀ s, (∀ next, s.loader.phase ≠ .starting next) → q s s)
    (hverdict : ∀ s, s.loader.phase = .starting .verdict → q s (giveVerdict s))
    (hsettle : ∀ s, s.loader.phase = .starting .settle → q s (settleStage s))
    (hload : ∀ s set, s.loader.phase = .starting (.load set) → q s (loadStage set s))
    (hflags : ∀ s clamped, s.loader.phase = .starting (.flags clamped) → q s (flagStage clamped s))
    (hnote : ∀ s, s.loader.phase = .starting .note → q s (noteStage s))
    (hclock : ∀ s, s.loader.phase = .starting .clock → q s (clockStage s)) (s : State) : q s (takeStage s) := by
  cases h : s.loader.phase with
  | starting next =>
    cases next with
    | verdict => rw [takeStage_verdict h]; exact hverdict s h
    | settle => rw [takeStage_settle h]; exact hsettle s h
    | load set => rw [takeStage_load h]; exact hload s set h
    | flags clamped => rw [takeStage_flags h]; exact hflags s clamped h
    | note => rw [takeStage_note h]; exact hnote s h
    | clock => rw [takeStage_clock h]; exact hclock s h
  | held | readingImage | running =>
    have hn : ∀ next, s.loader.phase ≠ .starting next := fun next => by simp [h]
    rw [takeStage_of_not_starting hn]
    exact hidle s hn

end Sys2Proof.Machine
end

section
/-! The laws of the clock, the gates, the stores and the held node, kept by every step. -/

namespace Sys2Proof.Machine

variable {K : Scope} {s t : State}

/-! ## Settings that wait to be loaded (R184, R188) -/

/-- Settings wait only before the load, where the loader is not moved to. -/
theorem waiting_of_phase {p : Settings → Prop}
    (h : ∀ set, t.loader.phase = .starting (.load set) → s.loader.phase = .starting (.load set)) (hs : Waiting p s) :
    Waiting p t := fun set e => hs set (h set e)

theorem waiting_of_ne {p : Settings → Prop} (h : ∀ set, t.loader.phase ≠ .starting (.load set)) : Waiting p t :=
  fun set e => absurd e (h set)

theorem Reach.waiting {p : Settings → Prop} (h : Reach K s t) (hs : Waiting p s) : Waiting p t :=
  waiting_of_phase (fun set e => by rwa [h.loader] at e) hs

theorem LoaderMove.waiting {p : Settings → Prop} {l : Loader} (h : LoaderMove s.loader l) (hs : Waiting p s) :
    Waiting p (s.withLoader l) := waiting_of_phase (fun _ e => h.phase_eq e (by simp) (by simp)) hs

/-- What stage 4 settles from an image, or from the straps (R188 to R191). -/
theorem settleStage_phase (s : State) : (settleStage s).loader.phase = .starting (.load
    (match s.loader.verdict with
      | .valid => settleImage s.loader.image
      | .defaults => settleDefaults s.loader.straps)) := rfl

/-- Settings that stage 4 settles have a property that those of every image and of the straps have. -/
theorem waiting_settleStage {p : Settings → Prop} (himg : ∀ img, p (settleImage img).cfg)
    (hdef : p (settleDefaults s.loader.straps).cfg) : Waiting p (settleStage s) := by
  intro set e
  rw [settleStage_phase] at e
  obtain rfl := Stage.load.inj (Phase.starting.inj e)
  split
  · exact himg _
  · exact hdef

/-- The settings that wait keep what an image's and the straps' settings have, along a stage. -/
theorem waiting_takeStage {p : Settings → Prop} (himg : ∀ img, p (settleImage img).cfg) (s : State)
    (hdef : p (settleDefaults s.loader.straps).cfg) (hs : Waiting p s) : Waiting p (takeStage s) := by
  revert hdef hs
  refine takeStage_cases (q := fun s t => p (settleDefaults s.loader.straps).cfg → Waiting p s → Waiting p t)
    (fun _ _ _ h => h) ?_ ?_ ?_ ?_ ?_ ?_ s
  · exact fun s _ _ _ => waiting_of_ne fun set => by simp [giveVerdict]
  · exact fun s _ hdef _ => waiting_settleStage himg hdef
  · exact fun s set _ _ _ => waiting_of_ne fun set => by simp [loadStage, atStage]
  · exact fun s clamped _ _ _ => waiting_of_ne fun set => by simp [flagStage]
  · exact fun s _ _ _ => waiting_of_ne fun set => by simp [noteStage, atStage]
  · exact fun s _ _ _ => waiting_of_ne fun set => by simp [clockStage]

/-! ## The settings and the loader along a stage -/

/-- A stage loads the settings that wait, or leaves the settings. -/
theorem takeStage_cfg (s : State) :
    (takeStage s).cfg = s.cfg ∨ ∃ set, s.loader.phase = .starting (.load set) ∧ (takeStage s).cfg = set.cfg := by
  refine takeStage_cases (q := fun s t => t.cfg = s.cfg ∨ ∃ set, s.loader.phase = .starting (.load set) ∧ t.cfg = set.cfg)
    (fun _ _ => .inl rfl) (fun _ _ => .inl rfl) (fun _ _ => .inl rfl) ?_ ?_ ?_ ?_ s
  · exact fun s set h => .inr ⟨set, h, rfl⟩
  · exact fun s clamped _ => .inl (by simp [flagStage])
  · exact fun s _ => .inl (cfg_of_env (noteStage_env s) :)
  · exact fun s _ => .inl rfl

theorem takeStage_straps (s : State) : (takeStage s).loader.straps = s.loader.straps := by
  refine takeStage_cases (q := fun s t => t.loader.straps = s.loader.straps) (fun _ _ => rfl) (fun _ _ => rfl)
    (fun _ _ => rfl) (fun _ _ _ => rfl) ?_ ?_ (fun _ _ => rfl) s
  · exact fun s clamped _ => by simp [flagStage]
  · exact fun s _ => (congrArg Loader.straps (loader_of_env (noteStage_env s)) :)

/-! ## The clock (R1, R4, R8) -/

/-- The clock's fields, trim and slew in range, as ClockLaw has them. -/
def ClockRange (k : Clock) : Prop :=
  k.seconds < 4294967296 ∧ k.nanoseconds < 1000000000 ∧ k.remainder < 10000000 ∧ k.trim.natAbs ≤ 10000 ∧
    k.slew.natAbs ≤ 80000000000000

/-- The remaining slew is 0 in FREE and HOLDOVER (R4). -/
def SlewLaw (k : Clock) : Prop := k.state = .free ∨ k.state = .holdover → k.slew = 0

theorem clockLaw_iff (s : State) : ClockLaw s ↔ ClockRange s.clock ∧ SlewLaw s.clock ∧ s.cfg.period ≤ 16 ∧
    Waiting (fun c => c.initialTrim.natAbs ≤ 10000 ∧ c.period ≤ 16) s := by
  unfold ClockLaw ClockRange SlewLaw
  tauto

theorem slewPortion_eq (r : Int) :
    slewPortion r = if r < -500000 then -500000 else if 500000 < r then 500000 else r := rfl

theorem ClockRange.advance {k : Clock} (h : ClockRange k) : ClockRange k.advance := by
  obtain ⟨hs, hn, hr, ht, hw⟩ := h
  unfold Clock.advance
  rw [slewPortion_eq]
  simp only [Config.suPerNs, Config.second]
  refine ⟨?_, ?_, ?_, ht, ?_⟩
  · dsimp only; split_ifs <;> omega
  · dsimp only; split_ifs <;> dsimp only at * <;> omega
  · dsimp only; split_ifs <;> dsimp only at * <;> omega
  · dsimp only; split_ifs <;> omega

theorem SlewLaw.advance {k : Clock} (h : SlewLaw k) : SlewLaw k.advance := by
  intro he
  have := h he
  simp only [Clock.advance, slewPortion_eq, this]
  decide

theorem clampTo_natAbs {b : Nat} (v : Int) : (clampTo (-(b : Int)) b v).natAbs ≤ b := by
  unfold clampTo; split_ifs <;> omega

theorem ClockRange.step {k : Clock} (h : ClockRange k) (c : Int) : ClockRange (k.step c) := by
  obtain ⟨-, -, hr, ht, -⟩ := h
  have hlt := plus_lt_circle k.reading c
  unfold Clock.step
  simp only [Config.circle, Config.second] at hlt ⊢
  exact ⟨by dsimp only; omega, Nat.mod_lt _ (by decide), hr, ht, Nat.zero_le _⟩

/-- A slew's correction is at most half a millisecond a second of at most 16 (R6, R8). -/
theorem ClockRange.startSlew {k : Clock} (h : ClockRange k) {c : Int} {n : Nat} (hn : n ≤ 16)
    (hi : ¬ isStep k.state c n = true) : ClockRange (k.startSlew c n) := by
  obtain ⟨hs, hns, hr, -, -⟩ := h
  simp only [isStep, Bool.or_eq_true, decide_eq_true_eq, not_or] at hi
  refine ⟨hs, hns, hr, clampTo_natAbs _, ?_⟩
  have := hi.2
  simp only [Clock.startSlew, Config.suPerNs]; omega

theorem ClockRange.enter {k : Clock} (h : ClockRange k) (r : Timebase) : ClockRange (k.enter r) := by
  obtain ⟨h1, h2, h3, h4, h5⟩ := h
  refine ⟨h1, h2, h3, h4, ?_⟩
  unfold Clock.enter
  dsimp only
  split
  · exact Nat.zero_le _
  · exact h5

theorem SlewLaw.enter (k : Clock) {r : Timebase} (hr : r ≠ .free) : SlewLaw (k.enter r) := by
  rintro (e | e)
  · exact absurd e hr
  · exact if_pos e

theorem Request.result_ne_free (q : Request) : q.result ≠ .free := by cases q <;> simp [Request.result]

/-- The interval of a correction is at most 16 s (R5). -/
theorem Request.correction_interval {q : Request} {period : Nat} {x : Int × Nat} (hp : period ≤ 16)
    (h : q.correction period = some x) : x.2 ≤ 16 := by
  cases q with
  | round c => obtain rfl := Option.some.inj h; exact hp
  | acquisition c | tracking c | labelStep c => obtain rfl := Option.some.inj h; exact (by decide : 1 ≤ 16)
  | holdover | loss => exact absurd h (by simp [Request.correction])

theorem ClockRange.clockAfter {k : Clock} (h : ClockRange k) {period : Nat} (hp : period ≤ 16) (q : Request) :
    ClockRange (q.clockAfter period k) := by
  unfold Request.clockAfter
  refine ClockRange.enter ?_ _
  split
  · exact h
  · rename_i c n e
    split
    · exact h.step c
    · rename_i hi
      exact h.startSlew (Request.correction_interval hp e) hi

theorem Reach.clockRange (h : Reach K s t) (hp : s.cfg.period ≤ 16) (hs : ClockRange s.clock ∧ SlewLaw s.clock) :
    ClockRange t.clock ∧ SlewLaw t.clock := by
  induction h with
  | start h => exact hs
  | request q h _ _ ih => exact ⟨ih.1.clockAfter (h.cfg ▸ hp) q, SlewLaw.enter _ q.result_ne_free⟩
  | flag f _ ih => rwa [setFlag_clock]
  | clear g m _ ih => rwa [clearFlags_clock]
  | _ => assumption

theorem clockRange_afterReset {c : Settings} (h : c.initialTrim.natAbs ≤ 10000) :
    ClockRange (Clock.afterReset c) ∧ SlewLaw (Clock.afterReset c) :=
  ⟨⟨Nat.zero_lt_succ _, Nat.zero_lt_succ _, Nat.zero_lt_succ _, h, Nat.zero_le _⟩, fun _ => rfl⟩

/-- A stage leaves the clock, or puts it in its state after reset with the settings loaded (R192). -/
theorem takeStage_clock_eq (s : State) : (takeStage s).clock = s.clock ∨
    ∃ set, s.loader.phase = .starting (.load set) ∧ (takeStage s).clock = Clock.afterReset set.cfg := by
  refine takeStage_cases
    (q := fun s t => t.clock = s.clock ∨
      ∃ set, s.loader.phase = .starting (.load set) ∧ t.clock = Clock.afterReset set.cfg)
    (fun _ _ => .inl rfl) (fun _ _ => .inl rfl) (fun _ _ => .inl rfl) ?_ ?_ ?_ (fun _ _ => .inl rfl) s
  · exact fun s set h => .inr ⟨set, h, rfl⟩
  · exact fun s clamped _ => .inl (by simp [flagStage])
  · exact fun s _ => .inl (clock_of_env (noteStage_env s) :)

theorem settleImage_range (img : List Byte) :
    (settleImage img).cfg.initialTrim.natAbs ≤ 10000 ∧ (settleImage img).cfg.period ≤ 16 := by
  refine ⟨clampTo_natAbs (b := 10000) _, ?_⟩
  show settlePeriod _ ≤ 16
  unfold settlePeriod
  split_ifs <;> decide

/-- The straps' settings have the defaults' trim and round period (R191). -/
theorem settleDefaults_range (p : Straps) :
    (settleDefaults p).cfg.initialTrim.natAbs ≤ 10000 ∧ (settleDefaults p).cfg.period ≤ 16 :=
  ⟨Nat.zero_le _, (by decide : 8 ≤ 16)⟩

theorem clockLaw_beforeLoad {u : State} (hc : u.clock = Clock.afterReset Settings.beforeLoad)
    (hcfg : u.cfg = Settings.beforeLoad) (hp : u.loader.phase = .held) : ClockLaw u := by
  rw [clockLaw_iff, hc, hcfg]
  exact ⟨(clockRange_afterReset (Nat.zero_le _)).1, (clockRange_afterReset (Nat.zero_le _)).2,
    (by decide : 8 ≤ 16), waiting_of_ne fun set => by simp [hp]⟩

/-- A tick advances a started node's clock, and moves no settings and no stage. -/
theorem ticked_cases (pins : TickPins) (s : State) :
    ((ticked pins s).clock = s.clock ∨ (ticked pins s).clock = s.clock.advance) ∧ (ticked pins s).cfg = s.cfg ∧
      (ticked pins s).loader.phase = s.loader.phase := by
  unfold ticked
  split
  · exact ⟨.inr rfl, rfl, rfl⟩
  · exact ⟨.inl rfl, rfl, rfl⟩

theorem clockLaw_kept : Kept ClockLaw where
  pending s v h := h
  tick pins s h := by
    obtain ⟨hclock, hcfg, hphase⟩ := ticked_cases pins s
    rw [clockLaw_iff] at h ⊢
    obtain ⟨hr, hl, hp, hw⟩ := h
    refine ⟨?_, ?_, hcfg ▸ hp, waiting_of_phase (fun set e => hphase ▸ e) hw⟩
    · rcases hclock with e | e <;> rw [e]
      exacts [hr, hr.advance]
    · rcases hclock with e | e <;> rw [e]
      exacts [hl, hl.advance]
  reach c s t _ _ _ h hs := by
    rw [clockLaw_iff] at hs ⊢
    obtain ⟨hr, hl, hp, hw⟩ := hs
    exact ⟨(h.clockRange hp ⟨hr, hl⟩).1, (h.clockRange hp ⟨hr, hl⟩).2, h.cfg ▸ hp, h.waiting hw⟩
  stage s h := by
    rw [clockLaw_iff] at h ⊢
    obtain ⟨hr, hl, hp, hw⟩ := h
    have hclock : ClockRange (takeStage s).clock ∧ SlewLaw (takeStage s).clock := by
      rcases takeStage_clock_eq s with e | ⟨set, hset, e⟩ <;> rw [e]
      · exact ⟨hr, hl⟩
      · exact clockRange_afterReset (hw set hset).1
    have hperiod : (takeStage s).cfg.period ≤ 16 := by
      rcases takeStage_cfg s with e | ⟨set, hset, e⟩ <;> rw [e]
      · exact hp
      · exact (hw set hset).2
    exact ⟨hclock.1, hclock.2, hperiod, waiting_takeStage settleImage_range s (settleDefaults_range _) hw⟩
  powerOn s _ := clockLaw_beforeLoad rfl rfl rfl
  external s _ := clockLaw_beforeLoad rfl rfl rfl
  loader s l hl h := by
    rw [clockLaw_iff] at h ⊢
    exact ⟨h.1, h.2.1, h.2.2.1, hl.waiting h.2.2.2⟩

/-- Settles O7: a tick, a request, a load and a reset each leave a clock in range. -/
theorem stepKeepsClockLaw : Obligations.StepKeepsClockLaw := clockLaw_kept.step

/-! ## The gates (R169) -/

theorem gateLaw_iff (s : State) :
    GateLaw s ↔ ∀ g : Group, GroupLaw (s.flag.closed.get g) (s.flag.flags.get g) (s.cfg.masks.get g) := by
  constructor
  · rintro ⟨h1, h2, h3, h4, h5⟩ g
    cases g
    exacts [h1, h2, h3, h4, h5]
  · exact fun h => ⟨h .time, h .line, h .data, h .window, h .start⟩

/-- The law depends on the flags, the gates and the masks alone. -/
theorem gateLaw_congr (hf : t.flag.flags = s.flag.flags) (hc : t.flag.closed = s.flag.closed) (hm : t.cfg = s.cfg)
    (h : GateLaw s) : GateLaw t := by
  rw [gateLaw_iff] at h ⊢
  rwa [hf, hc, hm]

theorem byte_or_and (a b m : Byte) : (a ||| b) &&& m = (a &&& m) ||| (b &&& m) := by
  ext i; simp [Bool.and_or_distrib_right]

/-- A setting of an enabled flag closes its gate (R169). -/
theorem gateLaw_setFlag (f : Flag) (h : GateLaw s) : GateLaw (setFlag f s) := by
  rw [gateLaw_iff] at h ⊢
  intro g
  rw [setFlag_flags, setFlag_closed, setFlag_cfg, PerGroup.get_set]
  by_cases hg : g = f.group
  · subst hg
    rw [if_pos rfl]
    split
    · intro hc
      rw [PerGroup.get_set, if_pos rfl] at hc
      exact absurd hc.symm Bool.false_ne_true
    · rename_i hno
      intro hc
      have hen : s.cfg.masks.get f.group &&& f.mask = 0#8 := by simpa [flagEnabled, hc] using hno
      have hold := h f.group hc
      rw [byte_or_and, hold, BitVec.and_comm, hen]
      rfl
  · rw [if_neg hg]
    split
    · rw [PerGroup.get_set, if_neg hg]; exact h g
    · exact h g

theorem clearFlags_closed (g : Group) (m : Byte) (u : State) : (clearFlags g m u).flag.closed =
    (u.flag.closed.set g (decide (u.flag.flags.get g &&& ~~~m &&& u.cfg.masks.get g ≠ 0#8))) := by
  unfold clearFlags
  dsimp only
  split
  · rename_i hl
    rw [closeGate_closed, decide_eq_true hl]
    cases g <;> rfl
  · rename_i hl
    rw [decide_eq_false hl]
    rfl

theorem clearFlags_flags (g : Group) (m : Byte) (u : State) :
    (clearFlags g m u).flag.flags = u.flag.flags.set g (u.flag.flags.get g &&& ~~~m) := by
  unfold clearFlags
  dsimp only
  split
  · rw [closeGate_flags]; rfl
  · rfl

/-- A CLEAR leaves a gate OPEN only with no enabled flag set (R172). -/
theorem gateLaw_clearFlags (g : Group) (m : Byte) (h : GateLaw s) : GateLaw (clearFlags g m s) := by
  rw [gateLaw_iff] at h ⊢
  intro k
  rw [clearFlags_flags, clearFlags_closed, clearFlags_cfg, PerGroup.get_set, PerGroup.get_set]
  by_cases hk : k = g
  · subst hk
    rw [if_pos rfl, if_pos rfl]
    exact fun hc => by simpa using hc
  · rw [if_neg hk, if_neg hk]; exact h k

theorem Reach.gateLaw (h : Reach K s t) (hs : GateLaw s) : GateLaw t := by
  induction h with
  | start h => exact hs
  | flag f _ ih => exact gateLaw_setFlag f ih
  | hand _ ih => exact gateLaw_congr (handState_flags _) (handState_closed _) (handState_cfg _) ih
  | clear g m _ ih => exact gateLaw_clearFlags g m ih
  | alarm u _ hf hc ih => exact gateLaw_congr hf hc rfl ih
  | _ => assumption

/-- With no flag set every gate may be OPEN. -/
theorem gateLaw_afterReset (h : t.flag = FlagUnit.afterReset) : GateLaw t := by
  rw [gateLaw_iff, h]
  intro g _
  cases g <;> exact BitVec.zero_and

theorem gateLaw_flagStage (clamped : Bool) (h : GateLaw s) : GateLaw (flagStage clamped s) :=
  gateLaw_congr rfl rfl rfl (((Reach.whole s).flag s.loader.pendingCause.flag |>.flagIf (decide (s.loader.verdict = .defaults)) .configDefault
      |>.flagIf clamped .configClamped).gateLaw h)

theorem gateLaw_kept : Kept GateLaw where
  pending s v h := h
  tick pins s h := by
    unfold ticked
    split <;> exact h
  reach c s t _ _ _ h hs := h.gateLaw hs
  stage s h := by
    revert h
    refine takeStage_cases (q := fun s t => GateLaw s → GateLaw t) (fun _ _ h => h) (fun _ _ h => h) (fun _ _ h => h)
      (fun _ _ _ _ => gateLaw_afterReset rfl) (fun _ c _ h => gateLaw_flagStage c h) ?_ (fun _ _ h => h) s
    exact fun s _ h => gateLaw_congr rfl rfl rfl
      (((Reach.whole _).flagIf _ _).gateLaw (s := s.withRing _) h)
  powerOn s _ := gateLaw_afterReset rfl
  external s _ := gateLaw_afterReset rfl
  loader s l _ h := h

/-- Settles O8: an enabled flag is set only where its gate is or becomes closed. -/
theorem stepKeepsGateLaw : Obligations.StepKeepsGateLaw := gateLaw_kept.step

end Sys2Proof.Machine
end

section
/-! The laws of the steps, the table, the list, the stores and the generator, and of the held node, kept by every step. -/

namespace Sys2Proof.Machine

variable {K : Scope} {s t : State}

/-! ## The moves keep the laws of the blocks -/

theorem Reach.stepsOk (h : Reach K s t) (hs : StepsOk s.acq) : StepsOk t.acq := by
  induction h with
  | start h => exact hs
  | acq a _ hok _ _ _ _ ih => exact hok ih
  | own r a _ _ _ hst hp _ _ _ ih =>
    unfold StepsOk
    rw [State.withRing_acq, State.withAcq_acq, hst, hp]; exact ih
  | flag f _ ih => rwa [setFlag_acq]
  | clear g m _ ih => rwa [clearFlags_acq]
  | _ => assumption

theorem Reach.rowsOk (h : Reach K s t) (hs : RowsOk s.agr.rows) : RowsOk t.agr.rows := by
  induction h with
  | start h => exact hs
  | agr a _ _ _ hok ih => exact hok ih
  | flag f _ ih => rwa [setFlag_agr]
  | clear g m _ ih => rwa [clearFlags_agr]
  | _ => assumption

theorem Reach.stations (h : Reach K s t) : t.agr.rows.map (·.station) = s.agr.rows.map (·.station) := by
  induction h with
  | start h => rfl
  | agr a _ _ hst _ ih => exact hst.trans ih
  | flag f _ ih => rwa [setFlag_agr]
  | clear g m _ ih => rwa [clearFlags_agr]
  | _ => assumption

theorem Reach.listOk (h : Reach K s t) (hs : ListOk s.win) : ListOk t.win := by
  induction h with
  | start h => exact hs
  | win w _ hl _ ih => exact hl ih
  | flag f _ ih => rwa [setFlag_win]
  | clear g m _ ih => rwa [clearFlags_win]
  | _ => assumption

theorem RecordRing.add_records_le (r : Record) {g : RecordRing} (h : g.records.length ≤ 16384) :
    (g.add r).records.length ≤ 16384 := by
  unfold RecordRing.add
  split
  · simp only [List.length_append, List.length_tail, List.length_singleton]; omega
  · rename_i hf
    simp only [RecordRing.full, Config.ringSize, decide_eq_true_eq] at hf
    simp only [List.length_append, List.length_singleton]; omega

theorem RecordRing.add_banks (r : Record) (g : RecordRing) :
    (g.add r).bank0 = g.bank0 ∧ (g.add r).bank1 = g.bank1 := by
  unfold RecordRing.add; split <;> exact ⟨rfl, rfl⟩

theorem banksOk_add (r : Record) {g : RecordRing} (h : BanksOk g) : BanksOk (g.add r) := by
  unfold BanksOk
  rw [(g.add_banks r).1, (g.add_banks r).2]; exact h

theorem Reach.records_le (h : Reach K s t) (hs : s.ring.records.length ≤ 16384) : t.ring.records.length ≤ 16384 := by
  induction h with
  | start h => exact hs
  | ring g _ hr _ _ ih => rw [State.withRing_ring, hr]; exact ih
  | add r _ _ _ ih => exact RecordRing.add_records_le r ih
  | own r a _ _ _ _ _ _ _ _ ih => exact RecordRing.add_records_le r ih
  | flag f _ ih => rwa [setFlag_ring]
  | clear g m _ ih => rwa [clearFlags_ring]
  | _ => assumption

theorem Reach.banksOk (h : Reach K s t) (hb : s.cfg.bankLength ≤ 6) (hs : BanksOk s.ring) : BanksOk t.ring := by
  induction h with
  | start h => exact hs
  | ring g h _ _ hok ih => exact hok (h.cfg ▸ hb) ih
  | add r _ _ _ ih => exact banksOk_add r ih
  | own r a _ _ _ _ _ _ _ _ ih => exact banksOk_add r ih
  | flag f _ ih => rwa [setFlag_ring]
  | clear g m _ ih => rwa [clearFlags_ring]
  | _ => assumption

theorem Reach.queue_le (h : Reach K s t) (hs : s.line.queue.length ≤ 4) : t.line.queue.length ≤ 4 := by
  induction h with
  | start h => exact hs
  | line l _ hq _ _ ih => exact hq ih
  | flag f _ ih => rwa [setFlag_line_queue]
  | clear g m _ ih => rwa [clearFlags_line_queue]
  | _ => assumption

theorem Reach.buffer_le (h : Reach K s t) (hs : s.corr.recentF.length ≤ 64) : t.corr.recentF.length ≤ 64 := by
  induction h with
  | start h => exact hs
  | corr c _ _ hb ih => exact hb ih
  | flag f _ ih => rwa [setFlag_corr]
  | clear g m _ ih => rwa [clearFlags_corr]
  | _ => assumption

/-- The generator's range (R68). -/
def GeneratorOk (g : Nat) : Prop := 1 ≤ g ∧ g ≤ 65535

/-- The shift register never reaches 0: from 1 its top bit is fed (R68). -/
theorem GeneratorOk.advance {g : Nat} (h : GeneratorOk g) : GeneratorOk (advanceGenerator g) := by
  obtain ⟨hlo, hhi⟩ := h
  unfold advanceGenerator
  by_cases h1 : g = 1
  · subst h1; exact ⟨by decide, by decide⟩
  · refine ⟨?_, ?_⟩ <;> split <;> omega

theorem Reach.generatorOk (h : Reach K s t) (hs : GeneratorOk s.line.generator) : GeneratorOk t.line.generator := by
  induction h with
  | start h => exact hs
  | line l _ _ hg _ ih =>
    rcases hg with e | e <;> rw [State.withLine_line, e]
    · exact ih
    · exact ih.advance
  | flag f _ ih => rwa [setFlag_line_generator]
  | clear g m _ ih => rwa [clearFlags_line_generator]
  | _ => assumption

/-! ## The blocks as a stage of the start leaves them (R192) -/

/-- A stage leaves the blocks but the ring, the flags and the STATE slot, or loads them from the settings that wait. -/
theorem takeStage_blocks (s : State) :
    ((takeStage s).agr = s.agr ∧ (takeStage s).win = s.win ∧ (takeStage s).corr = s.corr ∧
      (takeStage s).acq = s.acq ∧ (takeStage s).ref = s.ref ∧ (takeStage s).line.butState = s.line.butState) ∨
    ∃ set, s.loader.phase = .starting (.load set) ∧ takeStage s = loadStage set s := by
  refine takeStage_cases
    (q := fun s t => (t.agr = s.agr ∧ t.win = s.win ∧ t.corr = s.corr ∧ t.acq = s.acq ∧ t.ref = s.ref ∧
      t.line.butState = s.line.butState) ∨ ∃ set, s.loader.phase = .starting (.load set) ∧ t = loadStage set s)
    (fun _ _ => .inl ⟨rfl, rfl, rfl, rfl, rfl, rfl⟩) (fun _ _ => .inl ⟨rfl, rfl, rfl, rfl, rfl, rfl⟩)
    (fun _ _ => .inl ⟨rfl, rfl, rfl, rfl, rfl, rfl⟩) (fun s set h => .inr ⟨set, h, rfl⟩) ?_ ?_
    (fun _ _ => .inl ⟨rfl, rfl, rfl, rfl, rfl, rfl⟩) s
  · exact fun s c _ => .inl (by simp [flagStage])
  · exact fun s _ => .inl (by simp [noteStage, atStage, commitNote, commit])

/-! ## The law of the steps (R110, R112) -/

/-- The start steps of every component lie within the limit (R188). -/
def StartStepsOk (c : Settings) : Prop := ∀ k : Comp, -32 ≤ (c.comps.get k).startSteps ∧ (c.comps.get k).startSteps ≤ 32

theorem stepsLaw_iff (s : State) : StepsLaw s ↔ StepsOk s.acq ∧ Waiting StartStepsOk s := by
  unfold StepsLaw StepsOk StartStepsOk
  tauto

theorem componentLaw_none {n : Int} (hlo : -32 ≤ n) (hhi : n ≤ 32) : ComponentLaw n none :=
  ⟨hlo, hhi, by simp, by simp⟩

theorem stepsOk_startSteps {c : Settings} (h : StartStepsOk c) : StepsOk (Acquisition.afterReset c c.startSteps) :=
  ⟨componentLaw_none (h .x).1 (h .x).2, componentLaw_none (h .y).1 (h .y).2, componentLaw_none (h .z).1 (h .z).2⟩

theorem clampTo_bounds {lo hi : Int} (h : lo ≤ hi) (v : Int) : lo ≤ clampTo lo hi v ∧ clampTo lo hi v ≤ hi := by
  unfold clampTo; split_ifs <;> omega

theorem settleImage_startSteps (img : List Byte) : StartStepsOk (settleImage img).cfg := by
  intro k
  cases k <;> exact clampTo_bounds (by decide) _

theorem settleDefaults_startSteps (p : Straps) : StartStepsOk (settleDefaults p).cfg := by
  intro k
  cases k <;> exact ⟨(by decide : (-32 : Int) ≤ 0), (by decide : (0 : Int) ≤ 32)⟩

/-- The steps kept over an external reset are those of before, with nothing pending (R183). -/
theorem stepsOk_kept {a : Acquisition} (c : Settings) (h : StepsOk a) : StepsOk (Acquisition.afterReset c a.steps) :=
  ⟨componentLaw_none h.1.1 h.1.2.1, componentLaw_none h.2.1.1 h.2.1.2.1, componentLaw_none h.2.2.1 h.2.2.2.1⟩

theorem stepsLaw_kept : Kept StepsLaw where
  pending s v h := h
  tick pins s h := by unfold ticked; split <;> exact h
  reach c s t _ _ _ h hs := by
    rw [stepsLaw_iff] at hs ⊢
    exact ⟨h.stepsOk hs.1, h.waiting hs.2⟩
  stage s h := by
    rw [stepsLaw_iff] at h ⊢
    refine ⟨?_, waiting_takeStage settleImage_startSteps s (settleDefaults_startSteps _) h.2⟩
    rcases takeStage_blocks s with ⟨-, -, -, e, -, -⟩ | ⟨set, hset, e⟩ <;> rw [e]
    · exact h.1
    · exact stepsOk_startSteps (h.2 set hset)
  powerOn s _ := by
    rw [stepsLaw_iff]
    exact ⟨stepsOk_startSteps (c := Settings.beforeLoad) fun k => by cases k <;> decide, waiting_of_ne fun set => by
      simp [poweredOn, resetBlocks, Loader.afterPowerOn]⟩
  external s h := by
    rw [stepsLaw_iff] at h ⊢
    exact ⟨stepsOk_kept _ h.1, waiting_of_ne fun set => by simp [resetExternally, resetBlocks]⟩
  loader s l hl h := by
    rw [stepsLaw_iff] at h ⊢
    exact ⟨h.1, hl.waiting h.2⟩

/-! ## The law of the table (R23) -/

theorem rowsOk_afterReset (c : Settings) : RowsOk (Agreement.afterReset c).rows := by
  intro r hr
  obtain ⟨k, -, rfl⟩ := List.mem_map.mp hr
  exact Nat.zero_le _

theorem stations_afterReset (c : Settings) :
    (Agreement.afterReset c).rows.map (·.station) = otherStations c.station := by
  simp [Agreement.afterReset, Row.emptyOf, Function.comp_def]

theorem tableLaw_fresh {u : State} (h : u.agr = Agreement.afterReset u.cfg) : TableLaw u := by
  unfold TableLaw
  rw [h]
  exact ⟨stations_afterReset _, rowsOk_afterReset _⟩

theorem tableLaw_kept : Kept TableLaw where
  pending s v h := h
  tick pins s h := by unfold ticked; split <;> exact h
  reach c s t _ _ _ h hs := ⟨h.stations.trans (hs.1.trans (by rw [h.cfg])), h.rowsOk hs.2⟩
  stage s h := by
    rcases takeStage_blocks s with ⟨e, -⟩ | ⟨set, hset, e⟩
    · rcases takeStage_cfg s with ec | ⟨set, hset, -⟩
      · unfold TableLaw; rw [e, ec]; exact h
      · rw [takeStage_load hset]; exact tableLaw_fresh rfl
    · rw [e]; exact tableLaw_fresh rfl
  powerOn s _ := tableLaw_fresh rfl
  external s _ := tableLaw_fresh rfl
  loader s l _ h := h

/-! ## The law of the list (R98, R100) -/

theorem listOk_afterReset : ListOk WindowUnit.afterReset := ⟨Nat.zero_le _, List.nodup_nil, Nat.zero_le _⟩

theorem listLaw_kept : Kept ListLaw where
  pending s v h := h
  tick pins s h := by unfold ticked; split <;> exact h
  reach c s t _ _ _ h hs := h.listOk hs
  stage s h := by
    rcases takeStage_blocks s with ⟨-, e, -⟩ | ⟨set, hset, e⟩
    · show ListOk _; rw [e]; exact h
    · rw [e]; exact listOk_afterReset
  powerOn s _ := listOk_afterReset
  external s _ := listOk_afterReset
  loader s l _ h := h

/-! ## The law of the stores (R71, R140, R146, R155) -/

theorem storeLaw_iff (s : State) : StoreLaw s ↔ s.ring.records.length ≤ 16384 ∧ s.line.queue.length ≤ 4 ∧
    s.corr.recentF.length ≤ 64 ∧ s.cfg.bankLength ≤ 6 ∧ BanksOk s.ring ∧ Waiting (fun c => c.bankLength ≤ 6) s := by
  unfold StoreLaw BanksOk
  tauto

theorem settleImage_bankLength (img : List Byte) : (settleImage img).cfg.bankLength ≤ 6 := Nat.min_le_right _ _

theorem banksOk_empty {g : RecordRing} (h0 : g.bank0 = Bank.empty) (h1 : g.bank1 = Bank.empty) : BanksOk g := by
  unfold BanksOk; rw [h0, h1]; exact ⟨Nat.zero_le _, Nat.zero_le _⟩

/-- A stage leaves the ring but for the RESET note (R193). -/
theorem takeStage_ring (s : State) : (takeStage s).ring = s.ring ∨
    (s.loader.phase = .starting .note ∧
      (takeStage s).ring = s.ring.add (noteRecord (.reset s.loader.pendingCause) s)) := by
  refine takeStage_cases
    (q := fun s t => t.ring = s.ring ∨
      (s.loader.phase = .starting .note ∧ t.ring = s.ring.add (noteRecord (.reset s.loader.pendingCause) s)))
    (fun _ _ => .inl rfl) (fun _ _ => .inl rfl) (fun _ _ => .inl rfl) (fun _ _ _ => .inl rfl) ?_ ?_
    (fun _ _ => .inl rfl) s
  · exact fun s c _ => .inl (by simp [flagStage])
  · exact fun s h => .inr ⟨h, by simp [noteStage, atStage, commitNote, commit]⟩

theorem lineTick_queue (o : Bool) (s : State) :
    (lineTick o s).queue = s.line.queue ∧ (lineTick o s).generator = s.line.generator := by
  unfold lineTick LineUnit.count LineUnit.sample
  dsimp only
  split
  · exact ⟨rfl, rfl⟩
  · split_ifs <;> exact ⟨rfl, rfl⟩

/-- A tick leaves the queue and the generator. -/
theorem ticked_queue (pins : TickPins) (s : State) :
    (ticked pins s).line.queue = s.line.queue ∧ (ticked pins s).line.generator = s.line.generator := by
  unfold ticked
  split
  · exact lineTick_queue _ _
  · exact ⟨rfl, rfl⟩

theorem ticked_blocks (pins : TickPins) (s : State) : (ticked pins s).ring = s.ring ∧ (ticked pins s).corr = s.corr ∧
    (ticked pins s).flag = s.flag ∧ (ticked pins s).agr = s.agr := by
  unfold ticked
  split <;> exact ⟨rfl, rfl, rfl, rfl⟩

theorem storeLaw_reset {u : State} (hr : u.ring.records.length ≤ 16384) (h0 : u.ring.bank0 = Bank.empty)
    (h1 : u.ring.bank1 = Bank.empty) (hq : u.line.queue = []) (hc : u.corr = Correction.afterReset)
    (hcfg : u.cfg.bankLength ≤ 6) (hp : u.loader.phase = .held) : StoreLaw u := by
  rw [storeLaw_iff, hq, hc]
  exact ⟨hr, Nat.zero_le _, Nat.zero_le _, hcfg, banksOk_empty h0 h1, waiting_of_ne fun set => by simp [hp]⟩

theorem storeLaw_kept : Kept StoreLaw where
  pending s v h := h
  tick pins s h := by
    obtain ⟨hr, hc, -, -⟩ := ticked_blocks pins s
    obtain ⟨-, hcfg, hphase⟩ := ticked_cases pins s
    rw [storeLaw_iff] at h ⊢
    rw [hr, hc, hcfg, (ticked_queue pins s).1]
    exact ⟨h.1, h.2.1, h.2.2.1, h.2.2.2.1, h.2.2.2.2.1, waiting_of_phase (fun set e => hphase ▸ e) h.2.2.2.2.2⟩
  reach c s t _ _ _ h hs := by
    rw [storeLaw_iff] at hs ⊢
    obtain ⟨hr, hq, hc, hl, hb, hw⟩ := hs
    exact ⟨h.records_le hr, h.queue_le hq, h.buffer_le hc, h.cfg ▸ hl, h.banksOk hl hb, h.waiting hw⟩
  stage s h := by
    rw [storeLaw_iff] at h ⊢
    obtain ⟨hr, hq, hc, hl, hb, hw⟩ := h
    have hring : (takeStage s).ring.records.length ≤ 16384 ∧ BanksOk (takeStage s).ring := by
      rcases takeStage_ring s with e | ⟨-, e⟩ <;> rw [e]
      · exact ⟨hr, hb⟩
      · exact ⟨RecordRing.add_records_le _ hr, banksOk_add _ hb⟩
    have hcfg : (takeStage s).cfg.bankLength ≤ 6 := by
      rcases takeStage_cfg s with e | ⟨set, hset, e⟩ <;> rw [e]
      · exact hl
      · exact hw set hset
    have hlines : (takeStage s).line.queue.length ≤ 4 ∧ (takeStage s).corr.recentF.length ≤ 64 := by
      rcases takeStage_blocks s with ⟨-, -, ec, -, -, el⟩ | ⟨set, -, e⟩
      · rw [ec, LineUnit.queue_of_butState el]; exact ⟨hq, hc⟩
      · rw [e]; exact ⟨Nat.zero_le _, Nat.zero_le _⟩
    exact ⟨hring.1, hlines.1, hlines.2, hcfg, hring.2, waiting_takeStage settleImage_bankLength s (by decide : 4 ≤ 6) hw⟩
  powerOn s _ := storeLaw_reset (Nat.zero_le _) rfl rfl rfl rfl (by decide : 4 ≤ 6) rfl
  external s h := storeLaw_reset h.1 rfl rfl rfl rfl (by decide : 4 ≤ 6) rfl
  loader s l hl h := by
    rw [storeLaw_iff] at h ⊢
    exact ⟨h.1, h.2.1, h.2.2.1, h.2.2.2.1, h.2.2.2.2.1, hl.waiting h.2.2.2.2.2⟩

/-! ## The law of the generator and the station (R68, R185, R188) -/

theorem generatorLaw_iff (s : State) : GeneratorLaw s ↔ GeneratorOk s.line.generator ∧ s.cfg.station ≤ 15 ∧
    s.loader.straps.station ≤ 15 ∧ Waiting (fun c => c.station ≤ 15) s := by
  unfold GeneratorLaw GeneratorOk
  tauto

theorem settleImage_station (img : List Byte) : (settleImage img).cfg.station ≤ 15 := Nat.min_le_right _ _

theorem generatorOk_seed {n : Nat} (h : n ≤ 15) : GeneratorOk (n * 4096 + 1) := ⟨by omega, by omega⟩

theorem generatorLaw_kept : Kept GeneratorLaw where
  pending s v h := h
  tick pins s h := by
    obtain ⟨-, hcfg, hphase⟩ := ticked_cases pins s
    rw [generatorLaw_iff] at h ⊢
    rw [hcfg, (ticked_queue pins s).2]
    exact ⟨h.1, h.2.1, h.2.2.1, waiting_of_phase (fun set e => hphase ▸ e) h.2.2.2⟩
  reach c s t _ _ _ h hs := by
    rw [generatorLaw_iff] at hs ⊢
    rw [h.cfg, h.loader]
    exact ⟨h.generatorOk hs.1, hs.2.1, hs.2.2.1, h.waiting hs.2.2.2⟩
  stage s h := by
    rw [generatorLaw_iff] at h ⊢
    obtain ⟨hg, hst, hstr, hw⟩ := h
    refine ⟨?_, ?_, takeStage_straps s ▸ hstr, waiting_takeStage settleImage_station s hstr hw⟩
    · rcases takeStage_blocks s with ⟨-, -, -, -, -, el⟩ | ⟨set, hset, e⟩
      · rw [LineUnit.generator_of_butState el]; exact hg
      · rw [e]; exact generatorOk_seed (hw set hset)
    · rcases takeStage_cfg s with e | ⟨set, hset, e⟩ <;> rw [e]
      · exact hst
      · exact hw set hset
  powerOn s _ := by
    rw [generatorLaw_iff]
    exact ⟨generatorOk_seed (Nat.zero_le 15), Nat.zero_le 15, Nat.zero_le 15, waiting_of_ne fun set => by
      simp [poweredOn, resetBlocks, Loader.afterPowerOn]⟩
  external s h := by
    rw [generatorLaw_iff] at h ⊢
    exact ⟨generatorOk_seed (Nat.zero_le 15), Nat.zero_le 15, h.2.2.1, waiting_of_ne fun set => by simp [resetExternally, resetBlocks]⟩
  loader s l hl h := by
    rw [generatorLaw_iff] at h ⊢
    exact ⟨h.1, h.2.1, hl.straps h.2.2.1, hl.waiting h.2.2.2⟩

/-- Settles O9: the five laws of the blocks are kept each. -/
theorem stepKeepsBlockLaws : Obligations.StepKeepsBlockLaws := by
  rintro s t ⟨h1, h2, h3, h4, h5⟩ he
  exact ⟨stepsLaw_kept.step s t h1 he, tableLaw_kept.step s t h2 he, listLaw_kept.step s t h3 he,
    storeLaw_kept.step s t h4 he, generatorLaw_kept.step s t h5 he⟩

end Sys2Proof.Machine
end

section
/-! The law of the held node, the laws of the field values, the scan and the buffer, the timebase states and the starts of
transmissions. -/

namespace Sys2Proof.Machine

variable {K : Scope} {s t : State}

/-! ## The held node (R15, R51, R180, R183) -/

/-- What a node holds until its clock starts, as HeldLaw has it. -/
def HeldState (u : State) : Prop :=
  u.clock.seconds = 0 ∧ u.clock.nanoseconds = 0 ∧ u.clock.remainder = 0 ∧ u.clock.slew = 0 ∧ u.clock.state = .free ∧
    u.line.attempt = none ∧ u.line.jam = none ∧ u.acq.polarizeOut = false ∧ u.acq.countOut = false ∧
    u.acq.port = none ∧ u.ref = RefInput.afterReset

theorem heldLaw_iff (u : State) : HeldLaw u ↔
    (u.loader.powerOn = true ∨ u.loader.ext = true → u.loader.phase = .held) ∧
      (u.loader.phase ≠ .running → HeldState u) := Iff.rfl

/-- The node as a load or a reset leaves it. -/
theorem heldState_afterReset (c : Settings) (steps : Triple Int) (u : State) :
    HeldState (blocksAfterReset c steps u) := ⟨rfl, rfl, rfl, rfl, rfl, rfl, rfl, rfl, rfl, rfl, rfl⟩

theorem heldState_congr (hc : t.clock = s.clock) (ha : t.line.attempt = s.line.attempt) (hj : t.line.jam = s.line.jam)
    (hq : t.acq = s.acq) (hr : t.ref = s.ref) (h : HeldState s) : HeldState t := by
  unfold HeldState
  rwa [hc, ha, hj, hq, hr]

/-- Every stage but the last leaves a held node held (R184, R193). -/
theorem takeStage_heldState (h : HeldState s) : HeldState (takeStage s) := by
  rcases takeStage_blocks s with ⟨-, -, -, ha, hr, hl⟩ | ⟨set, -, e⟩
  · rcases takeStage_clock_eq s with hc | ⟨set, hset, -⟩
    · exact heldState_congr hc (LineUnit.attempt_of_butState hl) (LineUnit.jam_of_butState hl) ha hr h
    · rw [takeStage_load hset]; exact heldState_afterReset set.cfg set.cfg.startSteps s
  · rw [e]; exact heldState_afterReset set.cfg set.cfg.startSteps s

theorem takeStage_resets (s : State) :
    (takeStage s).loader.powerOn = s.loader.powerOn ∧ (takeStage s).loader.ext = s.loader.ext := by
  refine takeStage_cases (q := fun s t => t.loader.powerOn = s.loader.powerOn ∧ t.loader.ext = s.loader.ext)
    (fun _ _ => ⟨rfl, rfl⟩) (fun _ _ => ⟨rfl, rfl⟩) (fun _ _ => ⟨rfl, rfl⟩) (fun _ _ _ => ⟨rfl, rfl⟩) ?_ ?_
    (fun _ _ => ⟨rfl, rfl⟩) s
  · exact fun s c _ => by simp [flagStage]
  · exact fun s _ => ⟨(congrArg Loader.powerOn (loader_of_env (noteStage_env s)) :),
      (congrArg Loader.ext (loader_of_env (noteStage_env s)) :)⟩

theorem heldLaw_kept : Kept HeldLaw where
  pending s v h := h
  tick pins s h := by
    rw [heldLaw_iff] at h ⊢
    refine ⟨fun hb => (ticked_cases pins s).2.2.trans (h.1 hb), fun hp => ?_⟩
    rw [(ticked_cases pins s).2.2] at hp
    have hs := h.2 hp
    unfold ticked
    rw [if_neg (by simpa [State.running] using hp)]
    exact hs
  reach c s t hr ht he h hs := by
    rw [heldLaw_iff] at hs ⊢
    rw [h.loader]
    refine ⟨hs.1, fun hp => ?_⟩
    by_cases ha : c = .alarmRelease
    · subst ha
      obtain rfl := Host.Outcome.next.inj he
      have h0 := hs.2 hp
      split <;> exact h0
    · obtain rfl := Host.Outcome.next.inj ((heldNodeTakesNothing c s hp hr ht ha).symm.trans he)
      exact hs.2 hp
  stage s h := by
    rw [heldLaw_iff] at h ⊢
    rw [(takeStage_resets s).1, (takeStage_resets s).2]
    by_cases hst : ∃ next, s.loader.phase = .starting next
    · obtain ⟨next, hn⟩ := hst
      have hp : s.loader.phase ≠ .running := by simp [hn]
      exact ⟨fun hb => absurd (h.1 hb) (by simp [hn]), fun _ => takeStage_heldState (h.2 hp)⟩
    · rw [takeStage_of_not_starting fun next e => hst ⟨next, e⟩]; exact h
  powerOn s _ := ⟨fun _ => rfl, fun _ => heldState_afterReset _ _ s⟩
  external s _ := ⟨fun _ => rfl, fun _ => heldState_afterReset _ _ s⟩
  loader s l hl h := by
    rw [heldLaw_iff] at h ⊢
    have hp : s.loader.phase ≠ .running := by
      rcases hl.before with hb | hb | hb
      · rw [h.1 (.inl hb)]; simp
      · rw [h.1 (.inr hb)]; simp
      · rw [hb]; simp
    refine ⟨fun hb => ?_, fun _ => h.2 hp⟩
    have hold := h.1 (hb.imp hl.powerOn hl.ext)
    rcases hl.phase with e | ⟨-, e | ⟨e1, e2⟩⟩
    · exact e.trans hold
    · rw [hold] at e; exact absurd e (by simp)
    · rcases hb with hb | hb
      · exact absurd (e1.symm.trans hb) Bool.false_ne_true
      · exact absurd (e2.symm.trans hb) Bool.false_ne_true

/-- Settles O10: a held node takes no event, and no stage but the last starts it. -/
theorem stepKeepsHeldLaw : Obligations.StepKeepsHeldLaw := heldLaw_kept.step

/-! ## The field values and the scan (R135, R159 to R162) -/

theorem RecordRing.mem_add {r x : Record} {g : RecordRing} (h : x ∈ (g.add r).records) : x ∈ g.records ∨ x = r := by
  unfold RecordRing.add at h
  split at h
  · exact (List.mem_append.mp h).imp List.mem_of_mem_tail List.mem_singleton.mp
  · exact (List.mem_append.mp h).imp id List.mem_singleton.mp

theorem fieldLaw_add {r : Record} (hs : t.ring.records = (s.ring.add r).records) (hr : r.body.inField)
    (h : FieldLaw s) : FieldLaw t := by
  intro x hx
  rw [hs] at hx
  rcases RecordRing.mem_add hx with hx | rfl
  · exact h x hx
  · exact hr

theorem fieldLaw_congr (hs : t.ring.records = s.ring.records) (h : FieldLaw s) : FieldLaw t := by
  unfold FieldLaw
  rwa [hs]

theorem Reach.fieldLaw (h : Reach K s t) (hs : FieldLaw s) : FieldLaw t := by
  induction h with
  | start h => exact hs
  | ring g _ hr _ _ ih => exact fieldLaw_congr hr ih
  | add r _ _ hf ih => exact fieldLaw_add rfl hf ih
  | own r a _ hf _ _ _ _ _ _ ih => exact fieldLaw_add rfl hf ih
  | flag f _ ih => exact fieldLaw_congr (by rw [setFlag_ring]) ih
  | clear g m _ ih => exact fieldLaw_congr (by rw [clearFlags_ring]) ih
  | _ => assumption

/-- An overwrite moves a scan on by at most one record (R162). -/
theorem scanOk_add (r : Record) {g : RecordRing} (h : ScanOk g) : ScanOk (g.add r) := by
  unfold RecordRing.add
  split
  · intro sc e
    simp only [Option.map_eq_some_iff] at e
    obtain ⟨sc0, h0, rfl⟩ := e
    obtain ⟨hc, hl, hn, hr⟩ := h sc0 h0
    unfold Scan.overwritten
    split
    · rename_i hnext
      exact ⟨hc, hl, fun _ => hn (by simp [hnext]), hr⟩
    · exact ⟨hc, hl, hn, hr⟩
  · exact h

theorem Reach.scanOk (h : Reach K s t) (hs : ScanOk s.ring) : ScanOk t.ring := by
  induction h with
  | start h => exact hs
  | ring g _ _ hok _ ih => exact hok ih
  | add r _ _ _ ih => exact scanOk_add r ih
  | own r a _ _ _ _ _ _ _ _ ih => exact scanOk_add r ih
  | flag f _ ih => rwa [setFlag_ring]
  | clear g m _ ih => rwa [clearFlags_ring]
  | _ => assumption

theorem fieldScan_kept : Kept fun u => FieldLaw u ∧ ScanOk u.ring where
  pending s v h := h
  tick pins s h := by unfold ticked; split <;> exact h
  reach c s t _ _ _ h hs := ⟨h.fieldLaw hs.1, h.scanOk hs.2⟩
  stage s h := by
    rcases takeStage_ring s with e | ⟨-, e⟩
    · exact ⟨fieldLaw_congr (by rw [e]) h.1, by rw [e]; exact h.2⟩
    · exact ⟨fieldLaw_add (r := noteRecord (.reset s.loader.pendingCause) s) (by rw [e]) trivial h.1, by rw [e]; exact scanOk_add _ h.2⟩
  powerOn s _ := ⟨fun _ hx => absurd hx (List.not_mem_nil), fun _ e => absurd e (by simp [poweredOn, resetBlocks,
    RecordRing.afterPowerOn])⟩
  external s h := ⟨h.1, fun _ e => absurd e (by simp [resetExternally, resetBlocks, RecordRing.afterExternal])⟩
  loader s l _ h := h

/-! ## The recent-F buffer (R140) -/

/-- A second later than each of the buffer joins it in order. -/
theorem pairwise_joinBuffer {n f : Nat} {buf : List (Nat × Nat)}
    (h : buf.Pairwise fun a b => 0 < secondsDifference b.1 a.1) (hn : ∀ e ∈ buf, 0 < secondsDifference n e.1) :
    (joinBuffer n f buf).Pairwise fun a b => 0 < secondsDifference b.1 a.1 := by
  unfold joinBuffer
  rw [List.pairwise_append]
  refine ⟨?_, List.pairwise_singleton _ _, fun a ha b hb => ?_⟩
  · split
    · exact h.sublist (List.tail_sublist _)
    · exact h
  · obtain rfl := List.mem_singleton.mp hb
    split at ha
    · exact hn a (List.mem_of_mem_tail ha)
    · exact hn a ha

theorem bufferRecord_recentF_cases (r : Record) (v : Values) (u : State) :
    (bufferRecord r v u).corr.recentF = u.corr.recentF ∨
      ∃ f, (bufferRecord r v u).corr.recentF = joinBuffer r.seconds f u.corr.recentF := by
  unfold bufferRecord
  split
  · split
    · exact .inr ⟨_, rfl⟩
    · exact .inl rfl
  · exact .inl rfl

/-- A hand-over leaves the Correction Unit alone. -/
theorem handRecord_corr (r : Record) (u : State) : (handRecord r u).corr = u.corr := by
  have hf := (fillBank_reach (K := ⟨True, False, False, False, False, False⟩) (s := commit r u) r
    (.start fun h => absurd trivial h)).corr_eq id
  simp only [handRecord, commitOwn, setFlagIf_corr, hf]
  simp [commit]

/-- A closure joins the second closed to the buffer, or leaves the buffer (R140). -/
theorem closure_recentF (g : Gathering) (u : State) : (closure g u).corr.recentF = u.corr.recentF ∨
    ∃ f, (closure g u).corr.recentF = joinBuffer g.second f u.corr.recentF := by
  unfold closure closeSecond
  dsimp only
  rw [State.withAcq_corr]
  generalize hr : ownRecord u g.second 0 _ _ = r
  have hsec : r.seconds = g.second := by rw [← hr]; rfl
  generalize (Values.mk _ _ _) = v
  have h := bufferRecord_recentF_cases r v (handRecord r u)
  rwa [handRecord_corr, hsec] at h

theorem checkPeer_recentF (r : Record) (u : State) : (checkPeer r u).corr.recentF = u.corr.recentF := by
  unfold checkPeer
  split
  · rfl
  · split
    · rfl
    · simp [commit]

theorem commitPeer_recentF (k : Nat) (role : Role) (bs : List Byte) (u : State) :
    (commitPeer k role bs u).corr.recentF = u.corr.recentF := by
  unfold commitPeer
  split
  · rfl
  · rw [checkPeer_recentF]; simp [commit]

theorem takeBlock_recentF (f : Frame) (u : State) : (takeBlock f u).corr.recentF = u.corr.recentF := by
  unfold takeBlock
  split
  · rename_i hf
    clear hf
    generalize blockRecords f.payload = bss
    induction bss generalizing u with
    | nil => rfl
    | cons bs bss ih => exact (ih _).trans (commitPeer_recentF _ _ bs u)
  · rfl

theorem commitFrame_corr {k : Byte → Bool} {d : Frame → Reception → State → State} (u : State)
    (hd : ∀ f r w, (d f r w).corr.recentF = w.corr.recentF) :
    (commitFrame k d u).corr.recentF = u.corr.recentF := by
  unfold commitFrame
  split
  · rfl
  · dsimp only
    split
    · split
      · simp [duplicate, endReception]
      · rw [hd]; rfl
    · rfl

/-- Every command but a closure leaves the buffer or empties it. -/
theorem exec_recentF {c : Instr} (he : exec c s = .next t) (hc : c ≠ .secondClosure) :
    t.corr.recentF = s.corr.recentF ∨ t.corr.recentF = [] := by
  by_cases hr : restarts c = false
  · by_cases hb : c = .blockReceived
    · subst hb
      obtain rfl := Host.Outcome.next.inj he
      exact .inl (commitFrame_corr s fun f _ w => takeBlock_recentF f w)
    · refine .inl (congrArg Correction.recentF ((onlyTheseChangeTheBlocks c s t hr he).2.2.2.2.2 ?_))
      simp [hb, hc]
  · have hk : KeptByRestarts fun u => u.corr.recentF = s.corr.recentF ∨ u.corr.recentF = [] :=
      { stage := fun u hu => by
          rcases takeStage_blocks u with ⟨-, -, e, -⟩ | ⟨set, -, e⟩
          · rw [e]; exact hu
          · rw [e]; exact .inr rfl
        powerOn := fun u _ => .inr rfl
        external := fun u _ => .inr rfl
        loader := fun u l _ hu => hu }
    exact hk.exec (by simpa using hr) (.inl rfl) he

/-- A buffer in order stays so along a step, given that the second being gathered is later than each of it. -/
theorem bufferLaw_step (h : BufferLaw s)
    (hg : ∀ g e, s.acq.gathering = some g → e ∈ s.corr.recentF → 0 < secondsDifference g.second e.1)
    (he : step s = .next t) : BufferLaw t := by
  have hempty : ∀ u : State, u.corr.recentF = s.corr.recentF ∨ u.corr.recentF = [] → BufferLaw u := by
    rintro u (e | e) <;> unfold BufferLaw <;> rw [e]
    · exact h
    · exact List.Pairwise.nil
  unfold step at he
  split at he
  · obtain rfl := Host.Outcome.next.inj he
    refine hempty _ ?_
    rcases takeStage_blocks s with ⟨-, -, e, -⟩ | ⟨set, -, e⟩
    · rw [e]; exact .inl rfl
    · rw [e]; exact .inr rfl
  · rename_i c rest _
    by_cases hc : c = .secondClosure
    · subst hc
      obtain rfl := Host.Outcome.next.inj he
      split
      · rename_i g hgath
        split
        · rcases closure_recentF g (s.withPending rest) with e | ⟨f, e⟩
          · exact hempty _ (.inl e)
          · unfold BufferLaw
            rw [e]
            exact pairwise_joinBuffer h fun x hx => hg g x hgath hx
        · exact h
      · exact h
    · exact hempty _ (exec_recentF (s := s.withPending rest) he hc)

end Sys2Proof.Machine
end

section
/-! The law of the own records' tags, kept by every step: with it the laws of the ring and the buffer. -/

namespace Sys2Proof.Machine

variable {K : Scope} {s t : State}

/-! ## Tags on the circle (R1, R2) -/

theorem diff_congr {a a' b b' : Nat} (ha : a % Config.circle = a' % Config.circle)
    (hb : b % Config.circle = b' % Config.circle) : diff a b = diff a' b' := by
  unfold diff; rw [ha, hb]

theorem mod_eq_of_diff_zero {a b : Nat} (h : diff a b = 0) : a % Config.circle = b % Config.circle := by
  simp only [diff, Config.circle, Config.halfCircle] at h ⊢
  split at h <;> omega

/-- Whole seconds are later as their numbers are (R2). -/
theorem later_of_secondsDifference {a b : Nat} (h : 0 < secondsDifference a b) :
    later (a % 4294967296 * 1000000000) (b % 4294967296 * 1000000000) = true := by
  rw [later_iff]
  simp only [secondsDifference, diff, Config.circle, Config.halfCircle] at h ⊢
  split at h <;> split <;> omega

theorem mod_eq_of_secondsDifference_zero {a b : Nat} (h : secondsDifference a b = 0) :
    a % 4294967296 = b % 4294967296 := by
  simp only [secondsDifference] at h
  split at h <;> omega

theorem secondsDifference_self (a : Nat) : secondsDifference a a = 0 := by
  simp only [secondsDifference]
  split <;> omega

theorem secondsDifference_succ (a : Nat) : 0 < secondsDifference ((a + 1) % 4294967296) a := by
  simp only [secondsDifference]
  split <;> omega

theorem diff_self (a : Nat) : diff a a = 0 := by
  simp only [diff, Config.circle, Config.halfCircle]
  split <;> omega

/-- A tag of whole milliseconds names its own place on the circle (R1, R148). -/
theorem tagOf_tagTime {r : Record} {n : Nat} (hs : r.seconds = secondsOf (tagTime n))
    (hm : r.millis = millisOf (tagTime n)) : tagOf r % Config.circle = tagTime n % Config.circle := by
  have hk : tagTime n % 1000000 = 0 := by simp only [tagTime, Config.milli]; omega
  generalize tagTime n = k at *
  simp only [tagOf, hs, hm, secondsOf, millisOf, Config.circle, Config.second, Config.milli]
  have hms : k % 1000000000 / 1000000 * 1000000 = k % 1000000000 := by omega
  have hsec : k % 4294967296000000000 % 1000000000 = k % 1000000000 := by omega
  have hlt : k % 4294967296000000000 < 4294967296000000000 := Nat.mod_lt _ (by decide)
  rw [hms, ← hsec, Nat.mod_eq_of_lt (b := 4294967296) (Nat.div_lt_of_lt_mul (by omega)), Nat.div_add_mod',
    Nat.mod_mod]

/-! ## The own records as the ring grows and wraps (R146, R151) -/

theorem ownOrder_tail {rs : List Record} (h : OwnOrder rs) : OwnOrder rs.tail := by
  cases rs with
  | nil => exact h
  | cons x rs =>
    intro before between behind a b v w e
    exact h (x :: before) between behind a b v w (congrArg (x :: ·) e)

theorem newestOwn_of_tail {rs : List Record} {a : Record} (h : NewestOwn rs.tail a) : NewestOwn rs a := by
  cases rs with
  | nil => exact h
  | cons x rs =>
    obtain ⟨before, behind, v, e, ha, hb⟩ := h
    exact ⟨x :: before, behind, v, congrArg (x :: ·) e, ha, hb⟩

/-- The newest own record is not in front of a record behind it: the cut of a list with one record more. -/
theorem newestOwn_append {rs : List Record} {r a : Record} (h : NewestOwn (rs ++ [r]) a) :
    (a = r ∧ ∃ v, r.body = .own v) ∨ (¬ OwnOrReset r ∧ NewestOwn rs a) := by
  obtain ⟨before, behind, v, e, ha, hb⟩ := h
  rcases List.eq_nil_or_concat behind with rfl | ⟨init, x, rfl⟩
  · obtain ⟨-, rfl⟩ := List.append_inj' e rfl |>.imp id List.cons.inj |>.imp id And.left
    exact .inl ⟨rfl, v, ha⟩
  · rw [List.concat_eq_append, ← List.cons_append, ← List.append_assoc] at e
    obtain ⟨e1, e2⟩ := List.append_inj' e rfl
    obtain rfl := List.cons.inj e2 |>.1
    exact .inr ⟨hb r (by simp), before, init, v, e1, ha, fun y hy => hb y (by simp [hy])⟩

/-- A record more keeps the order, when an own one is later than the newest. -/
theorem ownOrder_append {rs : List Record} {r : Record} (h : OwnOrder rs)
    (hr : ∀ v, r.body = .own v → ∀ a, NewestOwn rs a → later (tagOf r) (tagOf a) = true) : OwnOrder (rs ++ [r]) := by
  intro before between behind a b v w e ha hb hbet
  rcases List.eq_nil_or_concat behind with rfl | ⟨init, x, rfl⟩
  · obtain ⟨e1, e2⟩ := List.append_inj' e rfl
    obtain rfl := List.cons.inj e2 |>.1
    exact hr w hb a ⟨before, between, v, e1, ha, hbet⟩
  · rw [List.concat_eq_append, ← List.cons_append, ← List.append_assoc] at e
    exact h before between init a b v w (List.append_inj' e rfl).1 ha hb hbet

/-- The ring with a record more: what stays of the records, and the record (R146). -/
theorem RecordRing.add_records_eq (r : Record) (g : RecordRing) :
    (g.add r).records = (if g.full then g.records.tail else g.records) ++ [r] := by
  unfold RecordRing.add
  split <;> rfl

theorem ownOrder_add {r : Record} {g : RecordRing} (h : OwnOrder g.records)
    (hr : ∀ v, r.body = .own v → ∀ a, NewestOwn g.records a → later (tagOf r) (tagOf a) = true) :
    OwnOrder (g.add r).records := by
  rw [g.add_records_eq]
  split
  · exact ownOrder_append (ownOrder_tail h) fun v hv a ha => hr v hv a (newestOwn_of_tail ha)
  · exact ownOrder_append h hr

theorem newestOwn_add {r a : Record} {g : RecordRing} (h : NewestOwn (g.add r).records a) :
    (a = r ∧ ∃ v, r.body = .own v) ∨ (¬ OwnOrReset r ∧ NewestOwn g.records a) := by
  rw [g.add_records_eq] at h
  split at h
  · exact (newestOwn_append h).imp id fun ⟨h1, h2⟩ => ⟨h1, newestOwn_of_tail h2⟩
  · exact newestOwn_append h

theorem ownOrReset_of_own {r : Record} {v : Values} (h : r.body = .own v) : OwnOrReset r := by
  unfold OwnOrReset; rw [h]; trivial

/-! ## The law of a started node, kept by the moves (R121, R124, R129) -/

/-- The newest own record is that of the last closed second or of the last reading handed over, as TagLaw has it. -/
def NewestTagged (u : State) : Prop := ∀ a, NewestOwn u.ring.records a →
  (u.cfg.role = .vector ∧ ∃ l, u.acq.lastClosed = some l ∧ secondsDifference l a.seconds = 0 ∧ a.millis = 0) ∨
  (u.cfg.role = .scalar ∧ ∃ l, u.acq.lastTag = some l ∧ diff l (tagOf a) = 0)

/-- What TagLaw says of a started node but for the scalar cycle's role. -/
def TagsOk (u : State) : Prop := OwnOrder u.ring.records ∧ GatherOk u.acq ∧ NewestTagged u

theorem roleLaw_iff (u : State) : RoleLaw u ↔ (u.cfg.role ≠ .scalar →
    u.acq.measuring = none ∧ u.acq.reading = none ∧ ∀ cycle, u.win.own.cause ≠ .polarize cycle) := by
  simp only [RoleLaw, Cycles]
  constructor
  · intro h hr
    refine ⟨?_, ?_, fun c hc => hr (h (.inr (.inr (.inr ⟨c, hc⟩))))⟩
    · by_contra hm; exact hr (h (.inr (.inl hm)))
    · by_contra hm; exact hr (h (.inr (.inr (.inl hm))))
  · intro h hc
    by_contra hr
    obtain ⟨hm, hrd, hw⟩ := h hr
    rcases hc with hc | hc | hc | ⟨c, hc⟩
    · exact hr hc
    · exact hc hm
    · exact hc hrd
    · exact hw c hc

theorem tagLaw_iff (u : State) : TagLaw u ↔ OwnOrder u.ring.records ∧ RoleLaw u ∧ GatherOk u.acq ∧
    (u.loader.phase = .running ∨ u.loader.phase = .starting .clock → NewestTagged u) := by
  rw [roleLaw_iff]; rfl

theorem tagsOk_congr (hr : t.ring.records = s.ring.records) (hc : t.cfg = s.cfg) (hg : GatherOk t.acq)
    (hl : t.acq.lastClosed = s.acq.lastClosed) (ht : t.acq.lastTag = s.acq.lastTag) (h : TagsOk s) : TagsOk t := by
  obtain ⟨ho, -, hn⟩ := h
  refine ⟨by rw [hr]; exact ho, hg, ?_⟩
  unfold NewestTagged
  rw [hr, hc, hl, ht]; exact hn

/-- A record that is no own one and no RESET note. -/
theorem tagsOk_add {r : Record} (hr : ¬ OwnOrReset r) (h : TagsOk t) : TagsOk (t.withRing (t.ring.add r)) := by
  obtain ⟨ho, hg, hn⟩ := h
  refine ⟨ownOrder_add ho fun v hv => absurd (ownOrReset_of_own hv) hr, hg, fun a ha => ?_⟩
  rcases newestOwn_add ha with ⟨rfl, v, hv⟩ | ⟨-, hold⟩
  · exact absurd (ownOrReset_of_own hv) hr
  · exact hn a hold

/-- The record of a closed second is later than the newest own one, which is of the last closed (R124, R129). -/
theorem ClosesSecond.later {r x : Record} {a : Acquisition} (h : ClosesSecond r a t) (ht : TagsOk t)
    (hx : NewestOwn t.ring.records x) : later (tagOf r) (tagOf x) = true := by
  obtain ⟨hv, g, hg, hs, hm, -⟩ := h
  rcases ht.2.2 x hx with ⟨-, l, hl, hd, hxm⟩ | ⟨hsc, -⟩
  · have := later_of_secondsDifference (ht.2.1 g l hg hl)
    unfold tagOf
    rwa [hs, hm, hxm, Nat.zero_mul, Nat.add_zero, Nat.add_zero, ← mod_eq_of_secondsDifference_zero hd]
  · rw [hv] at hsc; exact absurd hsc (by decide)

/-- The record of a reading is later than the newest own one, which has the last tag (R121). -/
theorem ClosesReading.later {r x : Record} {a : Acquisition} (h : ClosesReading r a t) (hrole : t.cfg.role = .scalar)
    (ht : TagsOk t) (hx : NewestOwn t.ring.records x) : later (tagOf r) (tagOf x) = true := by
  obtain ⟨n, hs, hm, hl, -⟩ := h
  rcases ht.2.2 x hx with ⟨hv, -⟩ | ⟨-, l, hlast, hd⟩
  · rw [hrole] at hv; exact absurd hv (by decide)
  · have := hl l hlast
    unfold Machine.later at this ⊢
    rwa [diff_congr (tagOf_tagTime hs hm) (mod_eq_of_diff_zero hd).symm]

/-- The record of a closed second or of a reading. -/
theorem tagsOk_own {r : Record} {a : Acquisition} (hb : ∃ v, r.body = .own v)
    (ho : ClosesSecond r a t ∨ (t.cfg.role = .scalar ∧ ClosesReading r a t)) (h : TagsOk t) :
    TagsOk ((t.withAcq a).withRing (t.ring.add r)) := by
  refine ⟨ownOrder_add h.1 fun v _ x hx => ?_, ?_, fun x hx => ?_⟩
  · rcases ho with hc | ⟨hrole, hc⟩
    · exact hc.later h hx
    · exact hc.later hrole h hx
  · rcases ho with ⟨-, g, -, -, -, hlc, -, acc, hga⟩ | ⟨-, n, -, -, -, -, hlc, hga⟩ <;> intro g' l hg' hl'
    · rw [State.withRing_acq, State.withAcq_acq] at hg' hl'
      obtain rfl := Option.some.inj (hga.symm.trans hg')
      obtain rfl := Option.some.inj (hlc.symm.trans hl')
      exact secondsDifference_succ _
    · rw [State.withRing_acq, State.withAcq_acq] at hg' hl'
      exact h.2.1 g' l (hga ▸ hg') (hlc ▸ hl')
  · obtain ⟨v, hv⟩ := hb
    rcases newestOwn_add hx with ⟨rfl, -⟩ | ⟨hn, -⟩
    · rw [State.withRing_acq, State.withAcq_acq, State.withRing_cfg, State.withAcq_cfg]
      rcases ho with ⟨hrole, g, -, hs, hm, hlc, -⟩ | ⟨hrole, n, hs, hm, -, hlt, -⟩
      · exact .inl ⟨hrole, g.second, hlc, by rw [hs]; exact secondsDifference_self _, hm⟩
      · exact .inr ⟨hrole, tagTime n, hlt, by rw [diff_congr rfl (tagOf_tagTime hs hm)]; exact diff_self _⟩
    · exact absurd (ownOrReset_of_own hv) hn

theorem Reach.tagsOk (h : Reach K s t) (hk : ¬ K.loose) (hs : TagsOk s) : TagsOk t := by
  induction h with
  | start h => exact hs
  | @acq u a _ _ hg _ ht hl ih => exact tagsOk_congr (s := u) rfl rfl (hg ih.2.1) hl ht ih
  | ring g _ hr _ _ ih => exact tagsOk_congr hr rfl ih.2.1 rfl rfl ih
  | add r _ ho _ ih => exact tagsOk_add ho ih
  | own r a _ _ hb _ _ _ _ ho ih => exact tagsOk_own hb (ho.imp_right fun h => ⟨h.1 hk, h.2⟩) ih
  | flag f _ ih => exact tagsOk_congr (by simp) (by simp) (by rw [setFlag_acq]; exact ih.2.1) (by simp) (by simp) ih
  | clear g m _ ih =>
    exact tagsOk_congr (by simp) (by simp) (by rw [clearFlags_acq]; exact ih.2.1) (by simp) (by simp) ih
  | _ => assumption

/-! ## The law along a step -/

/-- A stage of the start keeps the law: the RESET note parts the records of before from those behind it (R193). -/
theorem takeStage_tagLaw (h : TagLaw s) : TagLaw (takeStage s) := by
  revert h
  refine takeStage_cases (q := fun s t => TagLaw s → TagLaw t) (fun _ _ h => h) ?_ ?_ ?_ ?_ ?_ ?_ s
  · exact fun s _ ⟨h1, h2, h3, _⟩ => ⟨h1, h2, h3, fun hp => by simp [giveVerdict] at hp⟩
  · exact fun s _ ⟨h1, h2, h3, _⟩ => ⟨h1, h2, h3, fun hp => by simp [settleStage_phase] at hp⟩
  · exact fun s set _ ⟨h1, _, _, _⟩ => ⟨h1, fun _ => ⟨rfl, rfl, fun _ hc => Cause.noConfusion hc⟩,
      fun _ _ hg => absurd hg (Option.some_ne_none _).symm, fun hp => by simp [loadStage, atStage] at hp⟩
  · intro s clamped _ h
    rw [tagLaw_iff] at h ⊢
    obtain ⟨h1, h2, h3, -⟩ := h
    refine ⟨by simpa [flagStage] using h1, by simpa [flagStage, RoleLaw, Cycles] using h2, by simpa [flagStage] using h3,
      fun hp => by simp [flagStage] at hp⟩
  · intro s _ h
    rw [tagLaw_iff] at h ⊢
    obtain ⟨h1, h2, h3, -⟩ := h
    have hring : (noteStage s).ring = s.ring.add (noteRecord (.reset s.loader.pendingCause) s) := by
      simp [noteStage, atStage, commitNote, commit]
    refine ⟨?_, by simpa [noteStage, atStage, commitNote, commit, RoleLaw, Cycles] using h2,
      by simpa [noteStage, atStage, commitNote, commit] using h3, fun _ a ha => ?_⟩
    · rw [hring]; exact ownOrder_add h1 fun v hv => Body.noConfusion hv
    · rw [hring] at ha
      rcases newestOwn_add ha with ⟨-, v, hv⟩ | ⟨hn, -⟩
      · exact Body.noConfusion hv
      · exact absurd trivial hn
  · exact fun s hc ⟨h1, h2, h3, h4⟩ => ⟨h1, h2, h3, fun _ => h4 (.inr hc)⟩

theorem tagLaw_reset {u : State} (hp : u.loader.phase = .held) (hr : OwnOrder u.ring.records)
    (ha : u.acq = Acquisition.afterReset u.cfg u.acq.steps) (hw : u.win = WindowUnit.afterReset) : TagLaw u := by
  refine ⟨hr, fun _ => ?_, fun g l hg => ?_, fun h => by simp [hp] at h⟩
  · rw [ha, hw]; exact ⟨rfl, rfl, fun _ hc => Cause.noConfusion hc⟩
  · rw [ha] at hg; exact absurd hg (Option.some_ne_none _).symm

theorem tagLaw_kept : Kept TagLaw where
  pending s v h := h
  tick pins s h := by
    unfold ticked; split <;> exact h
  reach c s t hr ht he _ h := by
    by_cases hp : s.loader.phase = .running
    · rw [tagLaw_iff] at h ⊢
      obtain ⟨h1, h2, h3, h4⟩ := h
      obtain ⟨u, e, hu⟩ := exec_reach (loose := False) c s hr ht (.start fun _ => ⟨decide_eq_true hp, h2⟩)
      obtain rfl := Host.Outcome.next.inj (e.symm.trans he)
      obtain ⟨ho, hg, hn⟩ := hu.tagsOk id ⟨h1, h3, h4 (.inl hp)⟩
      exact ⟨ho, (hu.role id).2, hg, fun _ => hn⟩
    · by_cases ha : c = .alarmRelease
      · subst ha
        obtain rfl := Host.Outcome.next.inj he
        split <;> exact h
      · obtain rfl := Host.Outcome.next.inj ((heldNodeTakesNothing c s hp hr ht ha).symm.trans he)
        exact h
  stage s h := takeStage_tagLaw h
  powerOn s _ := tagLaw_reset rfl (fun before between behind a b v w e => by
    simp [poweredOn, resetBlocks, RecordRing.afterPowerOn] at e) rfl rfl
  external s h := tagLaw_reset rfl h.1 rfl rfl
  loader s l hl h := by
    obtain ⟨h1, h2, h3, h4⟩ := h
    refine ⟨h1, h2, h3, fun hp => h4 (hp.imp (fun e => ?_) fun e => ?_)⟩
    · exact hl.phase_eq e (by simp) (by simp)
    · exact hl.phase_eq e (by simp) (by simp)

/-- Settles O11: field values, the scan, the tags of the own records and the buffer. -/
theorem stepKeepsRingLaws : Obligations.StepKeepsRingLaws :=
  ⟨fun s t hf hs he => fieldScan_kept.step s t ⟨hf, hs⟩ he, tagLaw_kept.step, fun _ _ h hg he => bufferLaw_step h hg he⟩

end Sys2Proof.Machine
end

section
/-! The laws at reset, the timebase states, the requests at the clock, and the tick's clock and counts. -/

namespace Sys2Proof.Machine

variable {s t : State}

/-! ## The laws as a power-on reset begins -/

/-- Settles O12: every block is as after reset, the ring is empty, and no settings wait. -/
theorem resetMeetsTheLaws : Obligations.ResetMeetsTheLaws := by
  have hwait : ∀ p, Waiting p State.reset := fun p => waiting_of_ne fun set => by
    simp [State.reset, Loader.afterPowerOn]
  refine ⟨?clock, gateLaw_afterReset rfl, ⟨?steps, tableLaw_fresh rfl, listOk_afterReset, ?store, ?generator⟩,
    ⟨fun _ => rfl, fun _ => heldState_afterReset Settings.beforeLoad (Triple.all 0) State.reset⟩, ?field, ?scan,
    tagLaw_reset rfl ?order rfl rfl, List.Pairwise.nil⟩
  case clock =>
    exact ⟨by decide, by decide, by decide, by decide, by decide, by decide, fun _ => rfl, hwait _⟩
  case steps =>
    rw [stepsLaw_iff]
    exact ⟨stepsOk_startSteps (c := Settings.beforeLoad) fun k => by cases k <;> decide, hwait _⟩
  case store => exact storeLaw_reset (Nat.zero_le _) rfl rfl rfl rfl (by decide : 4 ≤ 6) rfl
  case generator =>
    rw [generatorLaw_iff]
    exact ⟨generatorOk_seed (Nat.zero_le 15), Nat.zero_le 15, Nat.zero_le 15, hwait _⟩
  case field => exact fun r hr => absurd hr List.not_mem_nil
  case scan => exact fun sc hsc => absurd hsc (Option.some_ne_none _).symm
  case order => exact fun before between behind a b v w e => by simp [State.reset, RecordRing.afterPowerOn] at e

/-! ## The timebase states (R10, R45) -/

theorem Request.clockAfter_state (q : Request) (period : Nat) (k : Clock) : (q.clockAfter period k).state = q.result := rfl

/-- A node in REFERENCED takes no request that leads elsewhere than to REFERENCED or HOLDOVER (R5). -/
theorem Request.result_of_referenced {q : Request} (h : q.takenIn .referenced = true) (hr : q.result ≠ .referenced) :
    q.result = .holdover := by
  cases q with
  | round c => exact absurd h (by simp [Request.takenIn])
  | holdover | loss => rfl
  | acquisition c | tracking c | labelStep c => exact absurd rfl hr

/-- What a command may make of the timebase state: nothing, or the result of a request that is taken. -/
def StateMove (s t : State) : Prop :=
  t.clock.state = s.clock.state ∨ ∃ q : Request, q.takenIn s.clock.state = true ∧ t.clock.state = q.result

theorem takeRequest_stateMove (q : Request) (s : State) : StateMove s (takeRequest q s) := by
  by_cases h : q.takenIn s.clock.state = true
  · exact .inr ⟨q, h, by rw [takeRequest_clock h, q.clockAfter_state]⟩
  · rw [takeRequest_ignored (by simpa using h)]; exact .inl rfl

theorem countMiss_stateMove (s : State) : StateMove s (countMiss s) := by
  unfold countMiss
  split
  · exact takeRequest_stateMove .loss (s.withRef _)
  · exact .inl rfl

theorem takePulse_stateMove (s : State) : StateMove s (takePulse s) := by
  unfold takePulse
  dsimp only
  split
  · split
    · exact countMiss_stateMove (s.withRef _)
    · unfold acceptPulse
      dsimp only
      split
      · exact takeRequest_stateMove _ (s.withRef _)
      · split_ifs
        · exact takeRequest_stateMove _ (s.withRef _)
        · unfold StateMove
          rw [setFlag_clock]
          exact takeRequest_stateMove _ (s.withRef _)
        · exact takeRequest_stateMove _ (s.withRef _)
  · unfold acquisitionPulse
    split
    · unfold acquire StateMove
      rw [setFlag_clock]
      exact takeRequest_stateMove _ (s.withRef _)
    · exact .inl rfl

theorem absence_stateMove (s : State) : StateMove s (absence s) := by
  unfold absence
  split
  · exact countMiss_stateMove (s.withRef _)
  · exact .inl rfl

theorem closeRound_clock (round : Round) (s : State) : (closeRound round s).clock = s.clock :=
  clock_of_env (closeRound_env round s)

theorem roundEnd_stateMove (s : State) : StateMove s (roundEnd s) := by
  have hc := closeRound_clock (findRound s.cfg s.clock.state s.agr.nextRound s.agr.rows) s
  unfold roundEnd
  dsimp only
  split
  · exact .inl (congrArg Clock.state hc)
  · rename_i q _
    have h := takeRequest_stateMove q (closeRound (findRound s.cfg s.clock.state s.agr.nextRound s.agr.rows) s)
    unfold StateMove at h
    rwa [hc] at h

/-- A node in REFERENCED makes no request at a round end (R28). -/
theorem roundEnd_referenced (h : s.clock.state = .referenced) : (roundEnd s).clock = s.clock := by
  unfold roundEnd
  simp only [Round.request, h, if_true]
  exact closeRound_clock _ s

theorem StateMove.free (h : StateMove s t) (ht : t.clock.state = .free) : s.clock.state = .free := by
  rcases h with e | ⟨q, -, e⟩
  · rw [← e, ht]
  · exact absurd (e.symm.trans ht) q.result_ne_free

theorem StateMove.referenced (h : StateMove s t) (hs : s.clock.state = .referenced)
    (ht : t.clock.state ≠ .referenced) : t.clock.state = .holdover := by
  rcases h with e | ⟨q, hq, e⟩
  · exact absurd (e.trans hs) ht
  · rw [hs] at hq
    exact e.trans (Request.result_of_referenced hq (e ▸ ht))

/-- A tick leaves the timebase state. -/
theorem ticked_state (pins : TickPins) (s : State) : (ticked pins s).clock.state = s.clock.state := by
  rcases (ticked_cases pins s).1 with e | e <;> rw [e]
  rfl

theorem disciplines_eq_false {c : Instr} (h1 : c ≠ .roundEnd) (h2 : c ≠ .pulse) (h3 : c ≠ .absenceDeadline) :
    disciplines c = false := by
  cases c with
  | roundEnd => exact absurd rfl h1
  | pulse => exact absurd rfl h2
  | absenceDeadline => exact absurd rfl h3
  | _ => rfl

/-- What a command makes of the timebase state (R10). -/
theorem exec_stateMove (c : Instr) (hr : restarts c = false) (he : exec c s = .next t) : StateMove s t := by
  have hid : StateMove s s := .inl rfl
  by_cases hd : disciplines c = false
  · by_cases ht : ∃ pins, c = .oscillatorTick pins
    · obtain ⟨pins, rfl⟩ := ht
      obtain rfl := Host.Outcome.next.inj he
      exact .inl (ticked_state pins s)
    · exact .inl (congrArg Clock.state ((onlyTheseChangeTheBlocks c s t hr he).2.2.1 hd fun pins e => ht ⟨pins, e⟩))
  · cases c with
    | roundEnd =>
      obtain rfl := Host.Outcome.next.inj he
      split
      exacts [roundEnd_stateMove s, hid]
    | pulse =>
      obtain rfl := Host.Outcome.next.inj he
      split
      exacts [takePulse_stateMove s, hid]
    | absenceDeadline =>
      obtain rfl := Host.Outcome.next.inj he
      split
      exacts [absence_stateMove s, hid]
    | _ => exact absurd rfl hd

/-- Settles O4: the state moves by requests that are taken, and in REFERENCED only a pulse or the absence deadline makes
one. -/
theorem timebaseTransitions : Obligations.TimebaseTransitions := by
  intro c s t hr he
  have hm := exec_stateMove c hr he
  refine ⟨hm.free, fun hs ht => ⟨hm.referenced hs ht, ?_⟩⟩
  by_contra hc
  obtain ⟨hp, ha⟩ := not_or.mp hc
  refine ht ((congrArg Clock.state ?_).trans hs)
  by_cases hround : c = .roundEnd
  · subst hround
    obtain rfl := Host.Outcome.next.inj he
    split
    exacts [roundEnd_referenced hs, rfl]
  · by_cases htick : ∃ pins, c = .oscillatorTick pins
    · obtain ⟨pins, rfl⟩ := htick
      obtain rfl := Host.Outcome.next.inj he
      exact absurd ((ticked_state pins s).trans hs) ht
    · exact (onlyTheseChangeTheBlocks c s t hr he).2.2.1 (disciplines_eq_false hround hp ha)
        fun pins e => htick ⟨pins, e⟩

/-! ## No start but in ACTIVE (R53) -/

theorem ticked_attempt_none (pins : TickPins) (h : s.line.attempt = none) : (ticked pins s).line.attempt = none := by
  unfold ticked
  split
  · simp only [runTick, lineTick, LineUnit.count, LineUnit.sample, h, Option.map_none]
    split
    · rfl
    · split_ifs <;> rfl
  · exact h

theorem attemptNone_restarts : KeptByRestarts fun u => u.line.attempt = none where
  stage s h := by
    rcases takeStage_blocks s with ⟨-, -, -, -, -, el⟩ | ⟨set, -, e⟩
    · rw [LineUnit.attempt_of_butState el]; exact h
    · rw [e]; rfl
  powerOn _ _ := rfl
  external _ _ := rfl
  loader _ _ _ h := h

/-- Settles O5: only ATTEMPT_START begins an attempt, and the arbiter allows none outside ACTIVE. -/
theorem noStartUnlessActive : Obligations.NoStartUnlessActive := by
  intro c s t hs hn he
  by_cases hr : restarts c = false
  · by_cases ht : ∃ pins, c = .oscillatorTick pins
    · obtain ⟨pins, rfl⟩ := ht
      obtain rfl := Host.Outcome.next.inj he
      exact ticked_attempt_none pins hn
    · by_cases ha : c = .attemptStart
      · subst ha
        obtain rfl := Host.Outcome.next.inj he
        rw [if_neg (by simp [allowsStart, hs])]
        exact hn
      · obtain ⟨u, e, hu⟩ := exec_reach_loose c s hr fun pins e => ht ⟨pins, e⟩
        obtain rfl := Host.Outcome.next.inj (e.symm.trans he)
        exact hu.attempt_none (by simpa [scopeOf] using ha) hn
  · exact attemptNone_restarts.exec (by simpa using hr) hn he

/-! ## A request at the clock (R5 to R13) -/

theorem reading_step (k : Clock) (c : Int) : (k.step c).reading = plus k.reading c := by
  simp only [Clock.reading, Clock.step, Config.second]
  omega

/-- The correction of a request, as a step or a slew (R6 to R8, R10). -/
theorem applied_clockAfter {q : Request} {period : Nat} {c : Int} {n : Nat} (k : Clock)
    (hq : q.correction period = some (c, n)) (hr : q.result ≠ .holdover) : Applied c n k (q.clockAfter period k) := by
  unfold Request.clockAfter
  rw [hq]
  dsimp only
  unfold Applied isStep
  simp only [Bool.or_eq_true, decide_eq_true_eq]
  split
  · refine ⟨reading_step k c, Nat.mod_lt _ (by decide), rfl, rfl, ?_⟩
    simp [Clock.enter, Clock.step]
  · exact ⟨rfl, rfl, rfl, if_neg hr, rfl⟩

/-- A taken request of which the correction and the result are known. -/
theorem takeRequest_applied {q : Request} {c : Int} {n : Nat} (ht : q.takenIn s.clock.state = true)
    (hq : q.correction s.cfg.period = some (c, n)) (hr : q.result ≠ .holdover) :
    (takeRequest q s).clock.state = q.result ∧ Applied c n s.clock (takeRequest q s).clock := by
  rw [takeRequest_clock ht]
  exact ⟨rfl, applied_clockAfter s.clock hq hr⟩

/-- Entering HOLDOVER with no correction (R10, R11). -/
theorem takeRequest_noCorrection {q : Request} (ht : q.takenIn s.clock.state = true)
    (hq : q.correction s.cfg.period = none) (hr : q.result = .holdover) :
    (takeRequest q s).clock = { s.clock with state := .holdover, slew := 0 } := by
  rw [takeRequest_clock ht]
  simp [Request.clockAfter, hq, hr, Clock.enter]

/-- Settles O17: the table's rows, request by request. -/
theorem requestTable : Obligations.RequestTable := by
  intro q s
  cases q with
  | round c =>
    dsimp only
    split
    · exact takeRequest_ignored (by simp [Request.takenIn, *])
    · exact takeRequest_applied (by simp [Request.takenIn, *]) rfl (by simp [Request.result])
  | acquisition c => exact takeRequest_applied rfl rfl (by simp [Request.result])
  | tracking c | labelStep c =>
    dsimp only
    split
    · exact takeRequest_applied (by simp [Request.takenIn, *]) rfl (by simp [Request.result])
    · exact takeRequest_ignored (by simp [Request.takenIn, *])
  | holdover =>
    dsimp only
    rw [if_neg (by simp : Request.holdover ≠ .loss)]
    split
    · exact takeRequest_noCorrection (q := .holdover) (by simp [Request.takenIn, *]) rfl rfl
    · exact takeRequest_ignored (by simp [Request.takenIn, *])
  | loss =>
    dsimp only
    rw [if_pos rfl]
    split
    · exact takeRequest_noCorrection (q := .loss) (by simp [Request.takenIn, *]) rfl rfl
    · exact takeRequest_ignored (by simp [Request.takenIn, *])

/-! ## The notes and flags of a request (R11 to R13) -/

theorem RecordRing.not_full {g : RecordRing} (h : g.records.length < 16384) : g.full = false :=
  decide_eq_false (Nat.not_le.mpr h)

/-- A commit in a ring with room joins the record and does nothing else (R146). -/
theorem commit_of_room (r : Record) (h : s.ring.records.length < 16384) :
    commit r s = s.withRing { s.ring with records := s.ring.records ++ [r] } := by
  unfold commit RecordRing.add
  rw [RecordRing.not_full h]
  rfl

/-- A note tagged alike by two states of the same settings and clock. -/
theorem noteRecord_congr (n : Note) (hc : s.cfg = t.cfg) (hk : s.clock = t.clock) : noteRecord n s = noteOf n t := by
  simp only [noteRecord, noteOf, State.reading, hc, hk]
  rfl

/-- The effects of a request that is taken, one after another (R13). -/
theorem takeRequest_eq {q : Request} (h : q.takenIn s.clock.state = true) :
    takeRequest q s =
      let s1 := s.withClock (q.clockAfter s.cfg.period s.clock)
      let s2 := (q.stepMade s.cfg.period s.clock).elim s1 fun c => stepEvent c s1
      if q.result = s.clock.state then s2 else stateChanged s.clock.state s2 := by
  unfold takeRequest
  rw [if_pos h]
  cases q.stepMade s.cfg.period s.clock <;> rfl

theorem takeRequest_cfg (q : Request) (s : State) : (takeRequest q s).cfg = s.cfg :=
  congrArg (·.2.2.1) (takeRequest_base q s)

/-- The step event in a ring with room: the reactions, the note and the flag (R12, R13). -/
theorem stepEvent_of_room (c : Int) (h : s.ring.records.length < 16384) :
    stepEvent c s = setFlag .stepped ((stepReactions c s).withRing
      { s.ring with records := s.ring.records ++ [noteRecord (.step c) s] }) := by
  unfold stepEvent commitNote
  rw [commit_of_room _ (show (stepReactions c s).ring.records.length < 16384 from h)]
  rfl

/-- The change of state in a ring with room: the note and the two flags (R11, R12). -/
theorem stateChanged_of_room (old : Timebase) (h : s.ring.records.length < 16384) :
    stateChanged old s = setFlagIf (decide (s.clock.state = .holdover)) .holdover
      (setFlagIf (decide (old = .referenced)) .refLost
        (s.withRing { s.ring with records := s.ring.records ++ [noteRecord (.timebase old) s] })) := by
  unfold stateChanged commitNote
  rw [commit_of_room _ h]

theorem setFlagIf_flags (b : Bool) (f : Flag) (s : State) : (setFlagIf b f s).flag.flags =
    s.flag.flags.set f.group (s.flag.flags.get f.group ||| if b then f.mask else 0#8) := by
  unfold setFlagIf
  cases b with
  | true => exact setFlag_flags f s
  | false =>
    simp only [Bool.false_eq_true, if_false, BitVec.or_zero]
    generalize f.group = g
    cases g <;> rfl

/-- The step a taken request makes, in a ring with room. -/
def Request.afterStep (q : Request) (s : State) : State :=
  let s1 := s.withClock (q.clockAfter s.cfg.period s.clock)
  (q.stepMade s.cfg.period s.clock).elim s1 fun c => stepEvent c s1

/-- The records, flags and blocks behind the step of a request (R13). -/
theorem afterStep_spec (q : Request) (h : s.ring.records.length + 1 ≤ 16384) :
    let u := q.afterStep s
    u.env = (s.withClock (q.clockAfter s.cfg.period s.clock)).env ∧
    u.ring.records = s.ring.records ++ ((q.stepMade s.cfg.period s.clock).map fun c => noteOf (.step c) u).toList ∧
    u.flag.flags = { s.flag.flags with
      time := s.flag.flags.time ||| if (q.stepMade s.cfg.period s.clock).isSome then 4#8 else 0#8 } := by
  unfold Request.afterStep
  dsimp only
  cases q.stepMade s.cfg.period s.clock with
  | none => exact ⟨rfl, (List.append_nil _).symm, by simp⟩
  | some c =>
    have hroom : (s.withClock (q.clockAfter s.cfg.period s.clock)).ring.records.length < 16384 := h
    refine ⟨stepEvent_env c _, ?_, ?_⟩
    · simp only [Option.elim_some, stepEvent_of_room c hroom, setFlag_ring, State.withRing_ring, Option.map_some,
        Option.toList_some]
      exact congrArg (fun r => s.ring.records ++ [r]) (noteRecord_congr (.step c) (by rw [setFlag_cfg]; rfl)
        (by rw [setFlag_clock]; rfl))
    · simp only [Option.elim_some, stepEvent_of_room c hroom, setFlag_flags]
      rfl

/-- The blocks behind the step of a request (R13). -/
theorem afterStep_blocks (q : Request) (s : State) :
    let u := q.afterStep s
    (∀ c, q.stepMade s.cfg.period s.clock = some c →
      let v := stepReactions c (s.withClock u.clock)
      u.agr = v.agr ∧ u.ref = v.ref ∧ u.win = v.win ∧ u.acq = v.acq ∧ u.line.queue = v.line.queue ∧ u.corr = s.corr) ∧
    (q.stepMade s.cfg.period s.clock = none → u = s.withClock u.clock) := by
  dsimp only
  unfold Request.afterStep
  dsimp only
  cases q.stepMade s.cfg.period s.clock with
  | none => exact ⟨fun c hc => absurd hc (by simp), fun _ => rfl⟩
  | some c =>
    refine ⟨fun c' hc => ?_, fun hc => absurd hc (by simp)⟩
    obtain rfl := Option.some.inj hc
    rw [Option.elim_some, clock_of_env (stepEvent_env c _)]
    simp only [stepEvent, commitNote, commit, setFlag_agr, setFlag_ref, setFlag_win, setFlag_acq, setFlag_corr,
      setFlag_line_queue, setFlagIf_agr, setFlagIf_ref, setFlagIf_win, setFlagIf_acq, setFlagIf_corr,
      setFlagIf_line_queue]
    exact ⟨rfl, rfl, rfl, rfl, rfl, rfl⟩

theorem takeRequest_afterStep {q : Request} (h : q.takenIn s.clock.state = true) : takeRequest q s =
    if q.result = s.clock.state then q.afterStep s else stateChanged s.clock.state (q.afterStep s) := takeRequest_eq h

/-- A change of state leaves the blocks but the ring, the flags and the STATE slot (R11, R12). -/
theorem stateChanged_blocks (old : Timebase) (s : State) : let t := stateChanged old s
    t.agr = s.agr ∧ t.ref = s.ref ∧ t.win = s.win ∧ t.acq = s.acq ∧ t.line.butState = s.line.butState ∧
      t.corr = s.corr := by
  simp [stateChanged, commitNote, commit]

/-- The blocks that a taken request leaves are those behind its step. -/
theorem takeRequest_blocks {q : Request} (h : q.takenIn s.clock.state = true) :
    let t := takeRequest q s
    let u := q.afterStep s
    t.agr = u.agr ∧ t.ref = u.ref ∧ t.win = u.win ∧ t.acq = u.acq ∧ t.line.butState = u.line.butState ∧
      t.corr = u.corr := by
  dsimp only
  rw [takeRequest_afterStep h]
  split
  · exact ⟨rfl, rfl, rfl, rfl, rfl, rfl⟩
  · exact stateChanged_blocks _ _

/-- The flags of a change of state (R11). -/
theorem stateChanged_flags (old : Timebase) (s : State) (h : s.ring.records.length < 16384) :
    (stateChanged old s).flag.flags = { s.flag.flags with
      time := s.flag.flags.time ||| (if old = .referenced then 2#8 else 0#8) |||
        (if s.clock.state = .holdover then 8#8 else 0#8) } := by
  rw [stateChanged_of_room old h]
  simp only [setFlagIf_flags, State.withRing_flag, decide_eq_true_eq]
  rfl

/-- Settles O18: the step and its note, then the change of state and its note. -/
theorem notesOfARequest : Obligations.NotesOfARequest := by
  intro q s hq hroom
  obtain ⟨henv, hrec, hflags⟩ := afterStep_spec q (s := s) (by omega)
  obtain ⟨hsome, hnone⟩ := afterStep_blocks q s
  obtain ⟨bagr, bref, bwin, bacq, bline, bcorr⟩ := takeRequest_blocks hq
  have hclock := takeRequest_clock hq
  have hcfg := takeRequest_cfg q s
  have huclock : (q.afterStep s).clock = q.clockAfter s.cfg.period s.clock := (clock_of_env henv :)
  have hucfg : (q.afterStep s).cfg = s.cfg := (cfg_of_env henv :)
  have hbroom : (q.afterStep s).ring.records.length < 16384 := by
    rw [hrec]
    cases q.stepMade s.cfg.period s.clock <;> simp <;> omega
  have hnote : ∀ n, noteOf n (q.afterStep s) = noteOf n (takeRequest q s) := fun n => by
    rw [← noteRecord_congr n (hucfg.trans hcfg.symm) (huclock.trans hclock.symm), ← noteRecord_congr n rfl rfl]
  refine ⟨?notes, ?flags, fun c hc => ?_, fun hn => ?_⟩
  case notes =>
    simp only [← hnote]
    rw [takeRequest_afterStep hq]
    split
    · rw [hrec, List.append_nil]
    · rw [stateChanged_of_room _ hbroom, setFlagIf_ring, setFlagIf_ring, State.withRing_ring, hrec]
      rfl
  case flags =>
    rw [takeRequest_afterStep hq]
    split
    · rename_i hsame
      have href : ¬ (s.clock.state = .referenced ∧ q.result ≠ .referenced) := fun h => h.2 (hsame.trans h.1)
      have hhold : ¬ (q.result = .holdover ∧ s.clock.state ≠ .holdover) := fun h => h.2 (hsame.symm.trans h.1)
      rw [hflags, if_neg href, if_neg hhold]
      simp only [BitVec.or_zero]
    · rename_i hchange
      have href : (s.clock.state = .referenced ∧ q.result ≠ .referenced) ↔ s.clock.state = .referenced :=
        ⟨And.left, fun h => ⟨h, h ▸ hchange⟩⟩
      have hhold : (q.result = .holdover ∧ s.clock.state ≠ .holdover) ↔ q.result = .holdover :=
        ⟨And.left, fun h => ⟨h, fun h' => hchange (h.trans h'.symm)⟩⟩
      rw [stateChanged_flags _ _ hbroom, hflags, huclock, q.clockAfter_state]
      simp only [href, hhold]
  · obtain ⟨h1, h2, h3, h4, h5, h6⟩ := hsome c hc
    rw [huclock, ← hclock] at h1 h2 h3 h4 h5
    exact ⟨bagr.trans h1, bref.trans h2, bwin.trans h3, bacq.trans h4, (LineUnit.queue_of_butState bline).trans h5,
      bcorr.trans h6⟩
  · have e := hnone hn
    rw [e] at bagr bref bwin bacq bline bcorr
    exact ⟨bagr, bref, bwin, bacq, LineUnit.queue_of_butState bline, bcorr⟩

/-! ## The tick (R3, R4, R180, R181) -/

/-- The quantity a tick adds, on the circle (R3, R4). -/
theorem Clock.advance_quantity {k : Clock} (h : ClockRange k) :
    (42949672960000000000000000 : Int) ∣
      (k.advance.quantity : Int) - ((k.quantity : Int) + 1000000000 + k.trim + slewPortion k.slew) := by
  obtain ⟨hs, hn, hr, ht, -⟩ := h
  have hp : -500000 ≤ slewPortion k.slew ∧ slewPortion k.slew ≤ 500000 := clampTo_bounds (by decide) _
  unfold Clock.advance Clock.quantity
  dsimp only
  generalize slewPortion k.slew = p at hp
  simp only [Config.suPerNs, Config.second]
  split_ifs <;> dsimp only at * <;> omega

/-- The receiver's counts leave the rest of the line. -/
theorem lineTick_kept (o : Bool) (s : State) :
    (lineTick o s).state = s.line.state ∧ (lineTick o s).roundCount = s.line.roundCount ∧
      (lineTick o s).ret = s.line.ret ∧ (lineTick o s).ready = s.line.ready ∧
      (lineTick o s).markSlot = s.line.markSlot ∧ (lineTick o s).stateSlot = s.line.stateSlot := by
  unfold lineTick LineUnit.count LineUnit.sample
  dsimp only
  split
  · exact ⟨rfl, rfl, rfl, rfl, rfl, rfl⟩
  · split_ifs <;> exact ⟨rfl, rfl, rfl, rfl, rfl, rfl⟩

/-- A tick of a started node. -/
theorem ticked_running (pins : TickPins) (h : s.running = true) :
    ticked pins s = { runTick pins s with tick := s.tick + 1, loader := s.loader.tick pins } := by
  unfold ticked
  rw [if_pos h]

/-- Settles O14: the clock's advance, and what a tick leaves of the blocks. -/
theorem tickAdvancesTheClock : Obligations.TickAdvancesTheClock := by
  intro pins s hrun hlaw
  obtain ⟨hrange, -⟩ := (clockLaw_iff s).mp hlaw
  obtain ⟨hs, hn, hr, -, -⟩ := hrange.advance
  obtain ⟨l1, l2, l3, l4, l5, l6⟩ := lineTick_kept pins.lineActive s
  obtain ⟨l7, l8⟩ := lineTick_queue pins.lineActive s
  refine ⟨ticked pins s, rfl, ?_⟩
  rw [ticked_running pins hrun]
  exact ⟨⟨rfl, Clock.advance_quantity hrange⟩, hs, hn, hr, rfl, rfl, rfl, labelTick_frame _ _ _, rfl, rfl, rfl, rfl, rfl,
    rfl, rfl, l1, l2, l3, l4, l5, l6, l7, l8⟩

/-- Settles O15: the loader's counts, and nothing else in a node that is not started. -/
theorem tickCountsForTheResets : Obligations.TickCountsForTheResets := by
  intro pins s
  refine ⟨ticked pins s, rfl, rfl, rfl, fun h => ?_⟩
  unfold ticked
  rw [if_neg (by simp [h])]

end Sys2Proof.Machine
end

section
/-! The instants of a pattern on the circle of node times, and the timers and stored times after a step. -/

namespace Sys2Proof.Machine

/-! ## The way forward on the circle -/

/-- How far a lies ahead of b on the circle, from 0 to less than the whole of it. -/
def forward (a b : Nat) : Nat := (a % Config.circle + Config.circle - b % Config.circle) % Config.circle

theorem diff_eq_forward (a b : Nat) :
    diff a b = if forward a b < Config.halfCircle then (forward a b : Int) else (forward a b : Int) - Config.circle := rfl

theorem forward_lt (a b : Nat) : forward a b < Config.circle := Nat.mod_lt _ (by decide)

theorem later_iff_forward (a b : Nat) : later a b = true ↔ 0 < forward a b ∧ forward a b < Config.halfCircle := by
  have := forward_lt a b
  rw [later_iff, diff_eq_forward]
  simp only [Config.circle, Config.halfCircle] at *
  split <;> omega

theorem notBefore_iff_forward (a b : Nat) : notBefore a b = true ↔ forward a b < Config.halfCircle := by
  have := forward_lt a b
  rw [notBefore, decide_eq_true_eq, diff_eq_forward]
  simp only [Config.circle, Config.halfCircle] at *
  split <;> omega

theorem diff_of_forward {a b : Nat} (h : forward a b < Config.halfCircle) : diff a b = forward a b := by
  rw [diff_eq_forward, if_pos h]

/-- The way forward is the same for both moved alike. -/
theorem forward_plus (a b : Nat) (c : Int) : forward (plus a c) (plus b c) = forward a b := by
  simp only [forward, plus, Config.circle]
  omega

/-- The way on from a place between. -/
theorem forward_sub {a b c : Nat} (h : forward b c ≤ forward a c) : forward a b = forward a c - forward b c := by
  simp only [forward, Config.circle] at *
  omega

theorem forward_add {a b c : Nat} (h : forward a b + forward b c < Config.circle) :
    forward a c = forward a b + forward b c := by
  simp only [forward, Config.circle] at *
  omega

theorem eq_of_forward_eq {a b c : Nat} (ha : a < Config.circle) (hb : b < Config.circle)
    (h : forward a c = forward b c) : a = b := by
  simp only [forward, Config.circle] at *
  omega

theorem plus_neg_plus {n : Nat} (h : n < Config.circle) (c : Int) : plus (plus n c) (-c) = n := by
  simp only [plus, Config.circle] at *
  omega

theorem plus_zero_of_lt {n : Nat} (h : n < Config.circle) : plus n 0 = n := by
  simp only [plus, Config.circle] at *
  omega

/-! ## The first instant of a pattern (R18, R19, R124, R125) -/

/-- The multiple found is the first later one on the circle: the next, or 0 where none is left below the circle's end. -/
theorem nextMultiple_spec {p x : Nat} (hp : 0 < p) (hpc : p < Config.circle) (hx : x < Config.circle) :
    nextMultiple p x < Config.circle ∧ nextMultiple p x % p = 0 ∧ 0 < forward (nextMultiple p x) x ∧
      forward (nextMultiple p x) x ≤ p ∧
      ∀ z < Config.circle, z % p = 0 → 0 < forward z x → forward (nextMultiple p x) x ≤ forward z x := by
  have hmod : x % p < p := Nat.mod_lt _ hp
  have hmul : (x + (p - x % p)) % p = 0 := by
    rw [← Nat.add_sub_assoc hmod.le, Nat.sub_add_comm (Nat.mod_le x p), Nat.add_mod_right]
    exact Nat.sub_mod_eq_zero_of_mod_eq (Nat.mod_mod x p).symm
  have hnext : ∀ z, z % p = 0 → x < z → x + (p - x % p) ≤ z := by
    intro z hz hlt
    have h1 := Nat.div_add_mod x p
    have h2 := Nat.div_add_mod z p
    have h3 : x / p < z / p := by
      by_contra hle
      have := Nat.mul_le_mul_left p (Nat.not_lt.mp hle)
      omega
    have := Nat.mul_le_mul_left p h3
    rw [Nat.mul_succ] at this
    omega
  have hle : x % p ≤ x := Nat.mod_le x p
  unfold nextMultiple
  generalize hy : x + (p - x % p) = y at *
  dsimp only
  simp only [forward, Config.circle] at *
  split
  · refine ⟨by omega, hmul, by omega, by omega, fun z hz hzp hpos => ?_⟩
    have := hnext z hzp
    omega
  · refine ⟨by omega, Nat.zero_mod p, by omega, by omega, fun z hz hzp hpos => ?_⟩
    have := hnext z hzp
    omega

/-- The first instant of a pattern later than t. -/
theorem nextInstant_spec {p t : Nat} {off : Int} (hp : 0 < p) (hpc : p < Config.circle) :
    OnPattern p off (nextInstant p off t) ∧ 0 < forward (nextInstant p off t) t ∧
      forward (nextInstant p off t) t ≤ p ∧
      ∀ m, OnPattern p off m → 0 < forward m t → forward (nextInstant p off t) t ≤ forward m t := by
  obtain ⟨hlt, hmod, hpos, hle, hmin⟩ := nextMultiple_spec hp hpc (plus_lt_circle t (-off))
  have hback : ∀ m, m < Config.circle → forward m t = forward (plus m (-off)) (plus t (-off)) := fun m hm =>
    (forward_plus m t (-off)).symm
  have hat : plus (nextInstant p off t) (-off) = nextMultiple p (plus t (-off)) := plus_neg_plus hlt off
  have hn : nextInstant p off t < Config.circle := plus_lt_circle _ _
  rw [hback _ hn, hat]
  refine ⟨⟨hn, by rw [hat]; exact hmod⟩, hpos, hle, fun m hm hmpos => ?_⟩
  rw [hback m hm.1] at hmpos ⊢
  exact hmin _ (plus_lt_circle _ _) hm.2 hmpos

/-- The instant set anew is the first of its pattern later than the reading, other than the one last taken. -/
theorem nextOther_firstAfter {p t : Nat} {off : Int} (taken : Option Nat) (hp : 0 < p) (hph : 2 * p < Config.halfCircle) :
    FirstAfter p off t taken (nextOther p off t taken) := by
  have hpc : p < Config.circle := by simp only [Config.halfCircle, Config.circle] at *; omega
  obtain ⟨hon, hpos, hle, hmin⟩ := nextInstant_spec (t := t) (off := off) hp hpc
  unfold nextOther
  dsimp only
  generalize nextInstant p off t = n at *
  split
  · rename_i htaken
    obtain ⟨hon2, hpos2, hle2, hmin2⟩ := nextInstant_spec (t := n) (off := off) hp hpc
    generalize nextInstant p off n = k at *
    have hsum : forward k t = forward k n + forward n t := forward_add (by
      simp only [Config.halfCircle, Config.circle] at *; omega)
    have hk : forward k t < Config.halfCircle := by simp only [Config.halfCircle] at *; omega
    refine ⟨hon2, (later_iff_forward _ _).mpr ⟨by omega, hk⟩, ?_, fun m hm hml hmd => ?_⟩
    · rw [htaken]
      intro e
      obtain rfl := Option.some.inj e
      omega
    · obtain ⟨hm1, hm2⟩ := (later_iff_forward _ _).mp hml
      rw [diff_of_forward hm2, diff_of_forward hk] at hmd
      have hge := hmin m hm hm1
      have hsub := forward_sub hge
      have heq : forward m t = forward n t := by
        by_contra hne
        have := hmin2 m hm (by omega)
        omega
      rw [htaken, eq_of_forward_eq hm.1 hon.1 heq]
  · rename_i htaken
    have hn : forward n t < Config.halfCircle := by simp only [Config.halfCircle] at *; omega
    refine ⟨hon, (later_iff_forward _ _).mpr ⟨hpos, hn⟩, htaken, fun m hm hml hmd => ?_⟩
    obtain ⟨hm1, hm2⟩ := (later_iff_forward _ _).mp hml
    rw [diff_of_forward hm2, diff_of_forward hn] at hmd
    have := hmin m hm hm1
    omega

/-- The first instant of a pattern at or later than t. -/
theorem firstInstant_firstFrom {p t : Nat} {off : Int} (hp : 0 < p) (hph : p < Config.halfCircle)
    (ht : t < Config.circle) : FirstFrom p off t (firstInstant p off t) := by
  have hpc : p < Config.circle := by simp only [Config.halfCircle, Config.circle] at *; omega
  obtain ⟨hon, hpos, hle, hmin⟩ := nextInstant_spec (t := plus t (-1)) (off := off) hp hpc
  have hone : ∀ m, 0 < forward m (plus t (-1)) → forward m t = forward m (plus t (-1)) - 1 := by
    intro m
    simp only [forward, plus, Config.circle] at *
    omega
  have hall : ∀ m, forward m t < Config.halfCircle → 0 < forward m (plus t (-1)) := by
    intro m
    simp only [forward, plus, Config.circle, Config.halfCircle] at *
    omega
  unfold firstInstant
  generalize nextInstant p off (plus t (-1)) = n at *
  have hn : forward n t < Config.halfCircle := by rw [hone n hpos]; omega
  refine ⟨hon, (notBefore_iff_forward _ _).mpr hn, fun m hm hmn => ?_⟩
  have hmh := (notBefore_iff_forward _ _).mp hmn
  have hmpos := hall m hmh
  have := hmin m hm hmpos
  rw [diff_of_forward hn, diff_of_forward hmh, hone n hpos, hone m hmpos]
  omega

/-- Settles O20: the timer's instants are the first of the pattern of round ends, which begins at 0. -/
theorem roundTimerAfterAStep : Obligations.RoundTimerAfterAStep := by
  intro cfg reading c a hperiod hreading
  have hp : 0 < cfg.periodNs ∧ 2 * cfg.periodNs < Config.halfCircle := by
    simp only [List.mem_cons, List.not_mem_nil, or_false] at hperiod
    simp only [Settings.periodNs, Config.second, Config.halfCircle]
    omega
  have hon : ∀ m : Nat, OnPattern cfg.periodNs 0 m ↔ m < 4294967296000000000 ∧ m % cfg.periodNs = 0 := fun m =>
    and_congr_right fun hm => by rw [neg_zero, plus_zero_of_lt hm]
  obtain ⟨hn, hlater, hother, hfirst⟩ :=
    nextOther_firstAfter (off := 0) (t := reading) a.lastRound hp.1 hp.2
  obtain ⟨hlt, hmod⟩ := (hon _).mp hn
  exact ⟨hlt, hmod, hlater, hother, fun m hm hmod hml hd => hfirst m ((hon m).mpr ⟨hm, hmod⟩) hml hd⟩

/-! ## What a step event moves (R36, R50, R102, R124, R125) -/

/-- The conversions of the field converters are abandoned (R124). -/
theorem conversions_onStep_get (v : Conversions) {k : Converter} (hk : k ∈ [Converter.fc0, .fc1, .fc2]) :
    v.onStep.get k = (v.get k).map Conversion.abandon := by
  simp only [List.mem_cons, List.not_mem_nil, or_false] at hk
  rcases hk with rfl | rfl | rfl <;> rfl

/-- Settles O19: each block's reaction moves its own node times, and the instants set anew are the first of their
patterns. -/
theorem stepMovesStoredTimes : Obligations.StepMovesStoredTimes := by
  intro c s
  refine ⟨rfl, rfl, rfl, ?win, ?line, ?acq, ?conv, ?times⟩
  case win =>
    show WindowUnit.onStep c s.win = _
    unfold WindowUnit.onStep OwnWindow.onStep
    rcases s.win.own.cause with _ | _ | _ <;> rfl
  case line =>
    refine congrArg (fun q => { s.line with queue := q }) (List.map_congr_left fun q _ => ?_)
    unfold Queued.onStep
    rcases q.frame with _ | _ | _ <;> rfl
  case acq =>
    have hmeasuring : s.acq.measuring.map (Measuring.onStep c) = s.acq.measuring.map fun m =>
        { windowEnd := plus m.windowEnd c
          stage := match m.stage with
            | .polarizing => .polarizing
            | .counting openTime finish => .counting (plus openTime c) (plus finish c) } :=
      Option.map_congr fun m _ => by
        unfold Measuring.onStep
        rcases m.stage with _ | _ <;> rfl
    show Acquisition.onStep s.cfg s.reading c s.acq = _
    unfold Acquisition.onStep
    rw [hmeasuring]
    rfl
  case conv =>
    intro k hk
    refine ⟨fun h => ?_, fun v comp smp h hj => ?_⟩
    · exact (conversions_onStep_get _ hk).trans (by rw [h]; rfl)
    · refine (conversions_onStep_get _ hk).trans ?_
      rw [h, Option.map_some, Conversion.abandon, hj]
  case times =>
    intro hperiod hstation hlo hhi hreading
    have hp : 0 < s.cfg.periodNs ∧ 2 * s.cfg.periodNs < Config.halfCircle := by
      simp only [List.mem_cons, List.not_mem_nil, or_false] at hperiod
      simp only [Settings.periodNs, Config.second, Config.halfCircle]
      omega
    have hcyc : 0 < s.cfg.cycle * Config.second ∧ 2 * (s.cfg.cycle * Config.second) < Config.halfCircle := by
      simp only [Config.second, Config.halfCircle]
      omega
    exact ⟨nextOther_firstAfter s.agr.lastMark hp.1 hp.2, nextOther_firstAfter s.acq.lastAsk hcyc.1 hcyc.2,
      firstInstant_firstFrom (by decide) (by decide) hreading, firstInstant_firstFrom (by decide) (by decide) hreading⟩

end Sys2Proof.Machine
end

section
/-! The line at one tick: what the node drives, the character under way, the counts, and the attempt's fields. -/

namespace Sys2Proof.Machine

variable {s t : State}

/-! ## What the node drives (R52, R63, R66) -/

theorem charActive_iff (c : Byte) (bit : Nat) :
    charActive c bit = true ↔ bit = 0 ∨ (1 ≤ bit ∧ bit ≤ 8 ∧ c.getLsbD (bit - 1) = false) := by
  unfold charActive
  by_cases h0 : bit = 0
  · simp [h0]
  · by_cases h8 : bit ≤ 8 <;> simp [h0, h8, Nat.one_le_iff_ne_zero]

/-- An attempt drives the line where its character under way is active. -/
theorem attemptDrives_iff (cfg : Settings) (a : Attempt) : a.drives cfg = true ↔
    a.lead ≠ none ∧ ∃ char, (sentChars cfg.station cfg.role a.kind a.length a.payload)[a.ticks / 200]? = some char ∧
      (a.ticks % 200 / 20 = 0 ∨
        (1 ≤ a.ticks % 200 / 20 ∧ a.ticks % 200 / 20 ≤ 8 ∧ char.getLsbD (a.ticks % 200 / 20 - 1) = false)) := by
  unfold Attempt.drives Attempt.chars
  rw [Bool.and_eq_true, Option.isSome_iff_ne_none]
  refine and_congr_right fun _ => ?_
  simp only [Config.charTicks, Config.bitTicks, ← charActive_iff]
  cases (sentChars cfg.station cfg.role a.kind a.length a.payload)[a.ticks / 200]? <;> simp

/-- The attempt as its fields are fixed at this tick (R20, R63). -/
theorem serialize_kept (s : State) (a : Attempt) :
    (a.serialize s).lead = a.lead ∧ (a.serialize s).kind = a.kind ∧ (a.serialize s).length = a.length ∧
      (a.serialize s).ticks = a.ticks ∧ (a.serialize s).item = a.item := by
  unfold Attempt.serialize
  dsimp only
  split
  · split_ifs <;> exact ⟨rfl, rfl, rfl, rfl, rfl⟩
  · split
    · split_ifs <;> exact ⟨rfl, rfl, rfl, rfl, rfl⟩
    · split_ifs <;> exact ⟨rfl, rfl, rfl, rfl, rfl⟩
    all_goals exact ⟨rfl, rfl, rfl, rfl, rfl⟩
  all_goals exact ⟨rfl, rfl, rfl, rfl, rfl⟩

theorem ready_kept (s : State) (a : Attempt) :
    (a.ready s).lead = a.lead ∧ (a.ready s).kind = a.kind ∧ (a.ready s).length = a.length ∧
      (a.ready s).ticks = a.ticks ∧ (a.ready s).item = a.item := by
  unfold Attempt.ready
  split
  · exact serialize_kept s a
  · exact ⟨rfl, rfl, rfl, rfl, rfl⟩

/-- An attempt one tick on. -/
def Attempt.ticked (s : State) (a : Attempt) : Attempt :=
  if (a.ready s).lead.isSome then { a.ready s with ticks := (a.ready s).ticks + 1 } else a.ready s

theorem Attempt.ticked_of_none {a : Attempt} (h : a.lead = none) : a.ticked s = a := by
  simp [Attempt.ticked, Attempt.ready, h]

theorem Attempt.ticked_of_some {a : Attempt} {cap : Capture} (h : a.lead = some cap) :
    a.ticked s = { a.serialize s with ticks := a.ticks + 1 } := by
  have hr : a.ready s = a.serialize s := by simp [Attempt.ready, h]
  obtain ⟨hl, -, -, ht, -⟩ := serialize_kept s a
  unfold Attempt.ticked
  rw [hr, hl, h, ht]
  rfl

theorem Attempt.ticked_payload (s : State) (a : Attempt) : (a.ticked s).payload = (a.ready s).payload := by
  unfold Attempt.ticked; split <;> rfl

/-! ## The line's fields after a tick -/

/-- The receiver's sample leaves the counts and the attempt. -/
theorem sample_kept (b : Bool) (l : LineUnit) :
    (l.sample b).level = b ∧ (l.sample b).jam = l.jam ∧ (l.sample b).backoff = l.backoff ∧
      (l.sample b).ready = l.ready ∧ (l.sample b).attempt = l.attempt ∧ (l.sample b).stuckTimer = l.stuckTimer := by
  unfold LineUnit.sample
  split
  · exact ⟨rfl, rfl, rfl, rfl, rfl, rfl⟩
  · split_ifs <;> exact ⟨rfl, rfl, rfl, rfl, rfl, rfl⟩

/-- The line with its attempt's fields fixed, as a tick finds it. -/
def State.readied (s : State) : LineUnit := { s.line with attempt := s.line.attempt.map (Attempt.ready s) }

/-- Whether the node itself drives the line at this tick. -/
def State.drivesLine (s : State) : Bool := s.readied.drives s.cfg

theorem lineTick_eq (o : Bool) (s : State) : lineTick o s = (s.readied.sample (s.drivesLine || o)).count := rfl

theorem lineTick_level (o : Bool) (s : State) : (lineTick o s).level = (s.drivesLine || o) :=
  (sample_kept _ s.readied).1

theorem lineTick_attempt (o : Bool) (s : State) : (lineTick o s).attempt = s.line.attempt.map (Attempt.ticked s) := by
  obtain ⟨-, -, -, -, ha, -⟩ := sample_kept (s.drivesLine || o) s.readied
  rw [lineTick_eq]
  unfold LineUnit.count
  dsimp only
  rw [ha]
  exact Option.map_map _ _ _

theorem lineTick_counts (o : Bool) (s : State) :
    (lineTick o s).stuckTimer = (if 600 ≤ (lineTick o s).idleRun then 0 else s.line.stuckTimer + 1) ∧
    (lineTick o s).jam = s.line.jam.map (· - 1) ∧
    (lineTick o s).backoff = (if s.line.ready then s.line.backoff.map (· - 1) else s.line.backoff) := by
  obtain ⟨-, hj, hb, hr, -, hs⟩ := sample_kept (s.drivesLine || o) s.readied
  rw [lineTick_eq]
  unfold LineUnit.count
  dsimp only
  rw [hj, hb, hr, hs]
  exact ⟨rfl, rfl, rfl⟩

theorem drivesLine_iff (o : Bool) (s : State) : s.drivesLine = true ↔
    (∃ n, s.line.jam = some n ∧ 0 < n) ∨
      ∃ a a' char, s.line.attempt = some a ∧ a.lead ≠ none ∧ (lineTick o s).attempt = some a' ∧
        (sentChars s.cfg.station s.cfg.role a.kind a.length a'.payload)[a.ticks / 200]? = some char ∧
        (a.ticks % 200 / 20 = 0 ∨
          (1 ≤ a.ticks % 200 / 20 ∧ a.ticks % 200 / 20 ≤ 8 ∧ char.getLsbD (a.ticks % 200 / 20 - 1) = false)) := by
  unfold State.drivesLine LineUnit.drives State.readied
  rw [lineTick_attempt, Bool.or_eq_true]
  refine or_congr (by simp [Option.any_eq_true]) ?_
  cases s.line.attempt with
  | none => simp
  | some a =>
    obtain ⟨hl, hk, hn, ht, -⟩ := ready_kept s a
    rw [Option.map_some, Option.map_some, Option.any_some, attemptDrives_iff, hl, hk, hn, ht]
    constructor
    · rintro ⟨hlead, char, hc, hb⟩
      exact ⟨a, a.ticked s, char, rfl, hlead, rfl, by rw [a.ticked_payload]; exact hc, hb⟩
    · rintro ⟨a1, a2, char, h1, hlead, h2, hc, hb⟩
      obtain rfl := Option.some.inj h1
      obtain rfl := Option.some.inj h2
      rw [a.ticked_payload] at hc
      exact ⟨hlead, char, hc, hb⟩

/-! ## The character under way (R52, R61) -/

/-- Outside a character the idle run is counted, and a falling edge begins one. -/
theorem lineTick_noChar (o : Bool) (h : s.line.charRx = none) :
    (lineTick o s).reception = s.line.reception ∧
    (lineTick o s).idleRun = (if (lineTick o s).level then 0 else s.line.idleRun + 1) ∧
    (lineTick o s).charRx = (if (lineTick o s).level = true ∧ s.line.level = false then
      some { age := 1, bits := 0#8, stopLow := false } else none) := by
  rw [lineTick_level, lineTick_eq]
  have hc : s.readied.charRx = none := h
  unfold LineUnit.count LineUnit.sample
  rw [hc]
  refine ⟨rfl, rfl, ?_⟩
  dsimp only
  simp only [Bool.and_eq_true, Bool.not_eq_true']
  rfl

/-- The bit taken at the middle of its bit time. -/
theorem CharRx.take_eq (active : Bool) (c : CharRx) : c.take active =
    { age := c.age + 1
      bits := if c.age + 1 ∈ [30, 50, 70, 90, 110, 130, 150, 170] ∧ active = false then
          c.bits ||| (1#8 <<< ((c.age + 1 - 30) / 20)) else c.bits
      stopLow := if c.age + 1 = 190 then active else c.stopLow } := by
  unfold CharRx.take
  dsimp only
  congr 1
  refine if_congr ?_ rfl rfl
  simp only [List.mem_cons, List.not_mem_nil, or_false, Config.bitTicks]
  rw [← and_assoc, ← and_assoc]
  refine and_congr_left fun _ => ?_
  omega

theorem takeChar_eq (done : CharRx) (r : Reception) : r.takeChar done =
    if r.framing = true ∨ (4 ≤ r.chars.length ∧ natAt 3 1 r.chars + 6 ≤ r.chars.length) then r
    else if done.stopLow then { r with framing := true } else { r with chars := r.chars ++ [done.bits] } := by
  unfold Reception.takeChar frameComplete lengthOf
  simp only [Bool.or_eq_true, Bool.and_eq_true, decide_eq_true_eq]

/-- A character goes on, ends after its ten bits, or ends at a falling edge behind the middle of its stop bit. -/
theorem lineTick_char (o : Bool) {char : CharRx} (h : s.line.charRx = some char) :
    let u := lineTick o s
    let edge := u.level = true ∧ s.line.level = false ∧ 190 ≤ char.age
    u.idleRun = 0 ∧
    (edge → u.charRx = some { age := 1, bits := 0#8, stopLow := false } ∧
      u.reception = s.line.reception.map (Reception.takeChar char)) ∧
    (¬ edge → 200 ≤ char.age + 1 → u.charRx = none ∧
      u.reception = s.line.reception.map (Reception.takeChar (char.take u.level))) ∧
    (¬ edge → char.age + 1 < 200 → u.charRx = some (char.take u.level) ∧ u.reception = s.line.reception) := by
  dsimp only
  rw [lineTick_level, lineTick_eq]
  generalize (s.drivesLine || o) = b
  have hc : s.readied.charRx = some char := h
  have hedge : (b && !s.readied.level && decide (190 ≤ char.age)) = true ↔
      b = true ∧ s.line.level = false ∧ 190 ≤ char.age := by
    simp only [Bool.and_eq_true, Bool.not_eq_true', decide_eq_true_eq, and_assoc]
    rfl
  unfold LineUnit.count LineUnit.sample
  rw [hc]
  dsimp only
  by_cases he : (b && !s.readied.level && decide (190 ≤ char.age)) = true
  · rw [if_pos he]
    exact ⟨rfl, fun _ => ⟨rfl, rfl⟩, fun hn => absurd (hedge.mp he) hn, fun hn => absurd (hedge.mp he) hn⟩
  · rw [if_neg he]
    by_cases hend : 200 ≤ char.age + 1
    · rw [if_pos hend]
      exact ⟨rfl, fun hy => absurd (hedge.mpr hy) he, fun _ _ => ⟨rfl, rfl⟩, fun _ hl => absurd hl (Nat.not_lt.mpr hend)⟩
    · rw [if_neg hend]
      exact ⟨rfl, fun hy => absurd (hedge.mpr hy) he, fun _ hl => absurd hl hend, fun _ _ => ⟨rfl, rfl⟩⟩

/-! ## The attempt's fields (R20, R63, R78, R95) -/

theorem atChar_iff (i : Nat) (a : Attempt) : a.atChar i = true ↔ a.ticks = i * 200 := decide_eq_true_iff

/-- A MARK's time and state (R20). -/
theorem serialize_mark {a : Attempt} {cap : Capture} (hl : a.lead = some cap) (hi : a.item = .mark) :
    a.serialize s = { a with
      payload :=
        let time := plus cap.reading s.agr.stepSum
        if a.ticks = 800 then leBytes 4 (time / 1000000000 : Nat) ++ leBytes 4 (time % 1000000000 : Nat)
        else if a.ticks = 2400 then
          a.payload ++ [match s.clock.state with
            | .free => 0#8 | .referenced => 1#8 | .agreed => 2#8 | .holdover => 3#8]
        else a.payload } := by
  unfold Attempt.serialize
  rw [hi, hl]
  dsimp only
  simp only [atChar_iff, Nat.reduceMul, Option.map_some, Option.getD_some]
  by_cases h4 : a.ticks = 800
  · simp only [h4, if_true]
  · by_cases h12 : a.ticks = 2400
    · simp only [if_neg h4, if_pos h12]
      cases s.clock.state <;> rfl
    · simp only [if_neg h4, if_neg h12]
      rw [← hi, ← hl]

theorem serialize_other {a : Attempt} (hm : a.item ≠ .mark) (hw : a.item ≠ .window) : a.serialize s = a := by
  unfold Attempt.serialize
  cases h : a.item with
  | mark => exact absurd h hm
  | window => exact absurd h hw
  | state | bank _ | reply _ => rfl

/-- The frame of a window attempt is the queue's first, when that is in the attempt. -/
theorem windowFrame_cons {l : LineUnit} {q : Queued} {qs : List Queued} (h : l.queue = q :: qs)
    (hq : q.inAttempt = true) : l.windowFrame = some q.frame := by
  simp [LineUnit.windowFrame, h, hq]

/-- A signed amount held between two bounds, the lower not negative. -/
theorem toNat_clampTo (lo hi : Nat) (v : Int) :
    (clampTo lo hi v).toNat = if v < lo then lo else if (hi : Int) < v then hi else v.toNat := by
  unfold clampTo
  split_ifs <;> simp

/-- The own ASK's delay: up to the cycle's start, at least 80 ms and at most 5 s (R78). -/
theorem askDelay_eq {lead : NodeTime} (h : s.win.leadCap = some lead) : askDelay s =
    (let away : Int := match s.win.own.cause with
      | .polarize cycle => -(-(diff cycle lead) / 1000000)
      | .compStep _ | .void => 80
     if away < 80 then 80 else if 5000 < away then 5000 else away.toNat) := by
  unfold askDelay
  rw [h]
  cases s.win.own.cause with
  | polarize cycle => exact toNat_clampTo 80 5000 _
  | compStep _ | void => rfl

/-- A DEFER's defer-for, up to the conflict's end and at most 60 s (R95, R96). -/
theorem deferFor_eq {lead : NodeTime} (finish : NodeTime) (guarded : Bool) (h : s.win.leadCap = some lead) :
    deferFor finish guarded s =
      (let away : Int := -(-(diff (if guarded then plus finish 20000000 else finish) lead) / 1000000)
       if away < 0 then 0 else if 60000 < away then 60000 else away.toNat) := by
  unfold deferFor
  rw [h]
  exact toNat_clampTo 0 60000 _

/-- What a window attempt serializes: the ASK's delay, duration and affect set, the DEFER's defer-for. -/
theorem serialize_window {a : Attempt} {q : Queued} {qs : List Queued} (hi : a.item = .window)
    (hq : s.line.queue = q :: qs) (hin : q.inAttempt = true) : a.serialize s =
      match q.frame with
      | .ask _ _ duration affect => if a.ticks = 1400 then { a with
          delay := askDelay s
          payload := a.payload ++ leBytes 2 (askDelay s) ++ leBytes 2 duration ++ leBytes 2 affect.toNat } else a
      | .defer _ _ e g _ => if a.ticks = 1000 then { a with payload := a.payload ++ leBytes 2 (deferFor e g s) } else a
      | .withdraw _ _ => a := by
  unfold Attempt.serialize
  rw [hi, windowFrame_cons hq hin]
  dsimp only
  simp only [atChar_iff, Nat.reduceMul]
  rcases q.frame with _ | _ | _ <;> rfl

/-! ## The tick as the statement has it -/

/-- A quiet line at a tick: the level, the idle run and the counts (R52, R57, R67). -/
theorem lineTick_quiet (o : Bool) (ha : s.line.attempt = none) (hj : s.line.jam = none) (hc : s.line.charRx = none)
    (hl : s.line.level = false) : lineTick o s = { s.line with
      level := o
      idleRun := if o then 0 else s.line.idleRun + 1
      charRx := if o then some { age := 1, bits := 0#8, stopLow := false } else none
      stuckTimer := if o = false ∧ 600 ≤ s.line.idleRun + 1 then 0 else s.line.stuckTimer + 1
      backoff := if s.line.ready then s.line.backoff.map (· - 1) else s.line.backoff } := by
  have hd : s.drivesLine = false := by simp [State.drivesLine, State.readied, LineUnit.drives, ha, hj]
  have hr : s.readied = s.line := by rw [State.readied, ha, Option.map_none, ← ha]
  rw [lineTick_eq, hr, hd, Bool.false_or]
  unfold LineUnit.count LineUnit.sample
  simp only [hc, hl, ha, hj]
  cases o <;> simp [CharRx.begun, Config.startGap]

/-- An attempt's fields at a tick, by what it sends. -/
theorem lineTick_attempt_of_some (o : Bool) {a : Attempt} {cap : Capture} (ha : s.line.attempt = some a)
    (hl : a.lead = some cap) : (lineTick o s).attempt = some { a.serialize s with ticks := a.ticks + 1 } := by
  rw [lineTick_attempt, ha, Option.map_some, Attempt.ticked_of_some hl]

/-- Settles O16: the line's level, character, counts and attempt after a tick. -/
theorem tickCountsTheLine : Obligations.TickCountsTheLine := by
  refine ⟨fun pins s hrun ha hj hc hl => ⟨ticked pins s, rfl, ?_⟩, fun pins s hrun => ⟨ticked pins s, rfl, ?_⟩⟩
  · rw [ticked_running pins hrun]
    exact lineTick_quiet pins.lineActive ha hj hc hl
  rw [ticked_running pins hrun]
  obtain ⟨hstuck, hjam, hback⟩ := lineTick_counts pins.lineActive s
  refine ⟨⟨s.drivesLine, lineTick_level _ s, drivesLine_iff pins.lineActive s⟩, lineTick_noChar _, ?char, hstuck, hjam,
    hback, fun h => ?none, fun a ha => ⟨fun hl => ?unled, fun cap hl => ?led⟩⟩
  case char =>
    intro char hc
    obtain ⟨hidle, hedge, hend, hon⟩ := lineTick_char pins.lineActive hc
    rw [CharRx.take_eq] at hend hon
    simp only [funext (takeChar_eq _)] at hedge hend
    exact ⟨hidle, hedge, hend, hon⟩
  case none => exact (lineTick_attempt _ s).trans (by rw [h]; rfl)
  case unled => exact (lineTick_attempt _ s).trans (by rw [ha, Option.map_some, Attempt.ticked_of_none hl])
  case led =>
    have hat := lineTick_attempt_of_some pins.lineActive ha hl
    refine ⟨fun hi => hat.trans (by rw [serialize_mark hl hi] <;> rfl), fun hm hw => hat.trans (by rw [serialize_other hm hw]),
      fun q qs lead hi hq hin hlead => ?_⟩
    rw [serialize_window hi hq hin] at hat
    cases hf : q.frame with
    | ask id cls duration affect =>
      rw [hf, askDelay_eq hlead] at hat
      exact hat.trans (congrArg some (by dsimp only; split <;> rfl))
    | defer w lt finish guarded marked =>
      rw [hf] at hat
      dsimp only at hat
      rw [deferFor_eq finish guarded hlead] at hat
      exact hat.trans (congrArg some (by dsimp only; split <;> rfl))
    | withdraw id start => rw [hf] at hat; exact hat

end Sys2Proof.Machine
end

section
/-! The Agreement Unit: measured MARKs, the candidates of a round end, the midpoint, the rows, and the round end whole. -/

namespace Sys2Proof.Machine

variable {s t : State}

/-! ## Frames heard (R55, R61, R62) -/

/-- A whole good frame of a kind taken ends the reception, and is a duplicate or delivered. -/
theorem commitFrame_heard {r : Reception} {k : Byte → Bool} {d : Frame → Reception → State → State} (h : Heard r s)
    (hk : k (kindOf r) = true) : commitFrame k d s =
      if senderOf r = s.cfg.station then duplicate (ended s) else d (frameOf r.chars) r (ended s) := by
  obtain ⟨hrun, hrx, hown, hwhole, hcheck⟩ := h
  unfold commitFrame
  rw [hrx]
  exact if_pos ⟨hrun, hown, hwhole, hcheck, hk⟩

/-- The same for a frame of another station. -/
theorem commitFrame_other {r : Reception} {k : Byte → Bool} {d : Frame → Reception → State → State} (h : Heard r s)
    (hk : k (kindOf r) = true) (hs : senderOf r ≠ s.cfg.station) :
    commitFrame k d s = d (frameOf r.chars) r (ended s) := by
  rw [commitFrame_heard h hk, if_neg hs]

theorem isKind_of_eq {k k' : Byte} (h : k' = k) : isKind k k' = true := decide_eq_true h

/-! ## A measured MARK (R21, R22, R24) -/

theorem measured_eq (st : RowState) : st.measured = if st = .excluded then .excluded else .live := by
  cases st <;> rfl

/-- Settles O21: the row of the sender takes the measurement. -/
theorem markReceivedIsMeasured : Obligations.MarkReceivedIsMeasured := by
  intro r s h hk hs
  refine ⟨_, congrArg Host.Outcome.next (commitFrame_other h (isKind_of_eq hk) hs), ?_⟩
  dsimp only
  unfold takeMark
  have hcode : natAt 8 1 (frameOf r.chars).payload = natAt 8 1 (payloadOf r) := rfl
  rw [hcode]
  cases hc : Timebase.ofCode (natAt 8 1 (payloadOf r)) with
  | none => simp
  | some peer =>
    dsimp only
    by_cases hgood : s.agr.roundCrossed = false ∧ (payloadOf r).length = 9
    · rw [if_pos hgood, if_neg]
      · refine congrArg (fun rows => { ended s with agr := { s.agr with rows := rows } })
          (?_ : updateRow _ _ _ = _)
        unfold updateRow
        refine List.map_congr_left fun row _ => if_congr (Q := row.station = senderOf r) Iff.rfl ?_ rfl
        unfold Row.measure
        rw [measured_eq]
        rfl
      · rintro (hx | hx)
        · exact absurd (hgood.1.symm.trans hx) Bool.false_ne_true
        · exact hx hgood.2
    · rw [if_neg hgood, if_pos]
      by_contra hx
      obtain ⟨hx1, hx2⟩ := not_or.mp hx
      exact hgood ⟨Bool.eq_false_iff.mpr hx1, not_not.mp hx2⟩

/-! ## The order of the candidates (R30) -/

theorem insertCandidate_perm (c : Candidate) (cs : List Candidate) : (insertCandidate c cs).Perm (c :: cs) := by
  induction cs with
  | nil => exact .refl _
  | cons d ds ih =>
    unfold insertCandidate
    split
    · exact .refl _
    · exact (ih.cons d).trans (.swap c d ds)

theorem sortCandidates_perm (cs : List Candidate) : (sortCandidates cs).Perm cs := by
  induction cs with
  | nil => exact .refl _
  | cons c cs ih => exact (insertCandidate_perm c _).trans (ih.cons c)

/-- The order of R30, as a proposition. -/
def Candidate.Le (a b : Candidate) : Prop := a.offset < b.offset ∨ (a.offset = b.offset ∧ a.station ≤ b.station)

theorem before_iff (a b : Candidate) : a.before b = true ↔ a.Le b := by
  simp [Candidate.before, Candidate.Le]

theorem Candidate.Le.trans {a b c : Candidate} (h1 : a.Le b) (h2 : b.Le c) : a.Le c := by
  unfold Candidate.Le at *; omega

theorem Candidate.le_of_not_before {a b : Candidate} (h : ¬ a.before b = true) : b.Le a := by
  rw [before_iff] at h
  unfold Candidate.Le at *; omega

theorem insertCandidate_pairwise (c : Candidate) {cs : List Candidate} (h : cs.Pairwise Candidate.Le) :
    (insertCandidate c cs).Pairwise Candidate.Le := by
  induction cs with
  | nil => exact List.pairwise_singleton _ _
  | cons d ds ih =>
    obtain ⟨hd, hds⟩ := List.pairwise_cons.mp h
    unfold insertCandidate
    split
    · rename_i hb
      have hcd := (before_iff c d).mp hb
      refine List.pairwise_cons.mpr ⟨fun x hx => ?_, h⟩
      rcases List.mem_cons.mp hx with rfl | hx
      · exact hcd
      · exact hcd.trans (hd x hx)
    · rename_i hb
      refine List.pairwise_cons.mpr ⟨fun x hx => ?_, ih hds⟩
      rcases List.mem_cons.mp ((insertCandidate_perm c ds).mem_iff.mp hx) with rfl | hx
      · exact Candidate.le_of_not_before hb
      · exact hd x hx

theorem sortCandidates_pairwise (cs : List Candidate) : (sortCandidates cs).Pairwise Candidate.Le := by
  induction cs with
  | nil => exact .nil
  | cons c cs ih => exact insertCandidate_pairwise c ih

/-! ## Members, tier and candidates (R26, R27) -/

theorem freshAt_iff (period : Nat) (roundEnd : NodeTime) (r : Row) : r.freshAt period roundEnd = true ↔
    r.fresh = true ∧ ∃ c, r.lastCapture = some c ∧ diff roundEnd c ≤ (period : Int) := by
  simp [Row.freshAt, Option.any_eq_true]

theorem member_iff (period : Nat) (roundEnd : NodeTime) (r : Row) : r.member period roundEnd = true ↔
    r.fresh = true ∧ r.state = .live ∧ ∃ c, r.lastCapture = some c ∧ diff roundEnd c ≤ (period : Int) := by
  unfold Row.member
  rw [Bool.and_eq_true, freshAt_iff, decide_eq_true_eq]
  tauto

/-- The chosen tier is one of those present, and none present ranks above it (R27). -/
theorem chosenTier_spec {tiers : List Tier} (h : tiers ≠ []) :
    chosenTier tiers ∈ tiers ∧ ∀ x ∈ tiers, x.code ≤ (chosenTier tiers).code := by
  unfold chosenTier
  split
  · exact ⟨‹_›, fun x _ => by cases x <;> decide⟩
  · rename_i hr
    split
    · exact ⟨‹_›, fun x hx => by cases x with
        | referenced => exact absurd hx hr
        | _ => decide⟩
    · rename_i hs
      have hall : ∀ x ∈ tiers, x = .free := fun x hx => by
        cases x with
        | referenced => exact absurd hx hr
        | settled => exact absurd hx hs
        | free => rfl
      obtain ⟨x, xs, rfl⟩ := List.exists_cons_of_ne_nil h
      have hx := hall x List.mem_cons_self
      exact ⟨by rw [← hx]; exact List.mem_cons_self, fun y hy => by rw [hall y hy]⟩

/-- Who is a candidate of a round end (R27). -/
theorem mem_findRound (cfg : Settings) (own : Timebase) (roundEnd : NodeTime) (rows : List Row) (c : Candidate) :
    c ∈ (findRound cfg own roundEnd rows).sorted ↔
      (own.tier = (findRound cfg own roundEnd rows).tier ∧ c = { station := cfg.station, offset := 0 }) ∨
      ∃ row ∈ rows, row.member cfg.periodNs roundEnd = true ∧
        row.peer.tier = (findRound cfg own roundEnd rows).tier ∧ c = { station := row.station, offset := row.offset } := by
  unfold findRound
  dsimp only
  rw [(sortCandidates_perm _).mem_iff, List.mem_append]
  refine or_congr ?_ ?_
  · by_cases h : own.tier = chosenTier (own.tier :: (rows.filter (Row.member cfg.periodNs roundEnd)).map fun r => r.peer.tier)
    · rw [if_pos (decide_eq_true h), List.mem_singleton]; exact ⟨fun e => ⟨h, e⟩, And.right⟩
    · rw [if_neg (by simpa using h)]; exact ⟨fun hx => absurd hx List.not_mem_nil, fun hx => absurd hx.1 h⟩
  · simp only [peerCandidates, List.mem_map, List.mem_filter, decide_eq_true_eq]
    exact ⟨fun ⟨row, ⟨⟨h1, h2⟩, h3⟩, h4⟩ => ⟨row, h1, h2, h3, h4.symm⟩,
      fun ⟨row, h1, h2, h3, h4⟩ => ⟨row, ⟨⟨h1, h2⟩, h3⟩, h4.symm⟩⟩

theorem findRound_tier (cfg : Settings) (own : Timebase) (roundEnd : NodeTime) (rows : List Row) :
    (findRound cfg own roundEnd rows).tier =
      chosenTier (own.tier :: (rows.filter (Row.member cfg.periodNs roundEnd)).map fun r => r.peer.tier) := rfl

theorem findRound_ne_nil (cfg : Settings) (own : Timebase) (roundEnd : NodeTime) (rows : List Row) :
    (findRound cfg own roundEnd rows).sorted ≠ [] := by
  have h := (chosenTier_spec (List.cons_ne_nil own.tier
    ((rows.filter (Row.member cfg.periodNs roundEnd)).map fun r => r.peer.tier))).1
  rw [← findRound_tier] at h
  rcases List.mem_cons.mp h with h | h
  · exact List.ne_nil_of_mem ((mem_findRound cfg own roundEnd rows _).mpr (.inl ⟨h.symm, rfl⟩))
  · obtain ⟨row, hrow, ht⟩ := List.mem_map.mp h
    obtain ⟨hin, hm⟩ := List.mem_filter.mp hrow
    exact List.ne_nil_of_mem ((mem_findRound cfg own roundEnd rows _).mpr (.inr ⟨row, hin, hm, ht, rfl⟩))

theorem periodNs_cast (cfg : Settings) : (cfg.periodNs : Int) = (cfg.period : Int) * 1000000000 := by
  simp [Settings.periodNs]

/-- Settles O22: the candidates are the members of the chosen tier, in order. -/
theorem candidatesOfARound : Obligations.CandidatesOfARound := by
  intro cfg own roundEnd rows
  dsimp only
  have hmem : ∀ row : Row, (row.fresh = true ∧ row.state = .live ∧
      ∃ c, row.lastCapture = some c ∧ diff roundEnd c ≤ (cfg.period : Int) * 1000000000) ↔
        row.member cfg.periodNs roundEnd = true := fun row => by rw [member_iff, periodNs_cast]
  have htop := (chosenTier_spec (List.cons_ne_nil own.tier
    ((rows.filter (Row.member cfg.periodNs roundEnd)).map fun r => r.peer.tier))).2
  refine ⟨fun c => ?_, sortCandidates_pairwise _, findRound_ne_nil cfg own roundEnd rows, htop _ List.mem_cons_self,
    fun row hrow hm => ?_⟩
  · simp only [hmem]
    exact mem_findRound cfg own roundEnd rows c
  · exact htop _ (List.mem_cons_of_mem _
      (List.mem_map.mpr ⟨row, List.mem_filter.mpr ⟨hrow, (hmem row).mp hm⟩, rfl⟩))

/-! ## The midpoint (R30) -/

theorem kept_length {cs : List Candidate} (h : cs ≠ []) : 0 < (kept cs).length := by
  have := List.length_pos_of_ne_nil h
  simp only [kept, dropCount, List.length_take, List.length_drop]
  omega

theorem kept_getElem {cs : List Candidate} {i : Nat} (h : i < (kept cs).length) :
    ∃ h' : dropCount cs.length + i < cs.length, (kept cs)[i] = cs[dropCount cs.length + i] := by
  have h2 : i < cs.length - dropCount cs.length := by
    simp only [kept, List.length_take, List.length_drop] at h; omega
  exact ⟨by omega, by simp [kept]⟩

theorem kept_getElem_le {cs : List Candidate} {i : Nat} (h : i < (kept cs).length) :
    dropCount cs.length + i + dropCount cs.length < cs.length := by
  simp only [kept, dropCount, List.length_take, List.length_drop] at *
  omega

/-- The lowest and the highest offset are those of the ends of what remains. -/
theorem lowest_eq {cs : List Candidate} (h : cs ≠ []) : lowest cs = ((kept cs)[0]'(kept_length h)).offset := by
  simp [lowest, List.head?_eq_getElem?, List.getElem?_eq_getElem (kept_length h)]

theorem highest_eq {cs : List Candidate} (h : cs ≠ []) :
    highest cs = ((kept cs)[(kept cs).length - 1]'(Nat.sub_lt (kept_length h) Nat.one_pos)).offset := by
  simp [highest, List.getLast?_eq_getElem?, List.getElem?_eq_getElem (Nat.sub_lt (kept_length h) Nat.one_pos)]

/-- The offsets rise along candidates in order. -/
theorem offset_le_of_le {cs : List Candidate} (h : cs.Pairwise Candidate.Le) {i j : Nat} (hij : i ≤ j)
    (hj : j < cs.length) : (cs[i]'(Nat.lt_of_le_of_lt hij hj)).offset ≤ cs[j].offset := by
  rcases Nat.lt_or_eq_of_le hij with hlt | rfl
  · have := List.pairwise_iff_getElem.mp h i j (Nat.lt_trans hlt hj) hj hlt
    unfold Candidate.Le at this
    omega
  · exact Int.le_refl _

/-- Where a property holds of a stretch of a list, at least as many elements have it. -/
theorem length_le_filter_of_stretch {α : Type} (p : α → Bool) (l : List α) (a n : Nat) (hn : a + n ≤ l.length)
    (h : ∀ i (hi : i < l.length), a ≤ i → i < a + n → p l[i] = true) : n ≤ (l.filter p).length := by
  have hsub : ((l.drop a).take n).Sublist l := (List.take_sublist _ _).trans (List.drop_sublist _ _)
  have hall : ((l.drop a).take n).filter p = (l.drop a).take n := List.filter_eq_self.mpr fun x hx => by
    obtain ⟨i, hi, rfl⟩ := List.getElem_of_mem hx
    simp only [List.length_take, List.length_drop] at hi
    simp only [List.getElem_take, List.getElem_drop]
    exact h _ (by omega) (by omega) (by omega)
  have := (hsub.filter p).length_le
  rw [hall] at this
  simp only [List.length_take, List.length_drop] at this
  omega

/-- The candidates outside a range, of those in order, as of those given. -/
theorem wrong_length (cs : List Candidate) (p : Candidate → Bool) :
    ((sortCandidates cs).filter p).length = (cs.filter p).length := ((sortCandidates_perm cs).filter p).length_eq

theorem towardZero_two_bounds {lo hi a b : Int} (h1 : lo ≤ a) (h2 : a ≤ b) (h3 : b ≤ hi) :
    lo ≤ towardZero (a + b) 2 ∧ towardZero (a + b) 2 ≤ hi := by
  unfold towardZero
  split <;> omega

/-- Settles O23: with at most f outside a range, the f-th candidate from each end lies in it. -/
theorem wrongCandidatesDoNotCarryTheMidpoint : Obligations.WrongCandidatesDoNotCarryTheMidpoint := by
  intro cs lo hi hne hwrong
  have hlen : (sortCandidates cs).length = cs.length := (sortCandidates_perm cs).length_eq
  have hsorted := sortCandidates_pairwise cs
  rw [← wrong_length, ← hlen] at hwrong
  have hne' : sortCandidates cs ≠ [] := fun e => hne (by simpa [e] using hlen.symm)
  generalize sortCandidates cs = l at *
  clear hlen hne
  obtain ⟨hlo, elo⟩ := kept_getElem (kept_length hne')
  obtain ⟨hhi, ehi⟩ := kept_getElem (Nat.sub_lt (kept_length hne') Nat.one_pos)
  have hend := kept_getElem_le (Nat.sub_lt (kept_length hne') Nat.one_pos)
  have hf : dropCount l.length = (l.length - 1) / 3 := rfl
  have hmid : lowest l ≤ highest l := by
    rw [lowest_eq hne', highest_eq hne', elo, ehi]
    exact offset_le_of_le hsorted (by omega) hhi
  refine towardZero_two_bounds ?_ hmid ?_
  · by_contra hlt
    rw [lowest_eq hne', elo] at hlt
    have := length_le_filter_of_stretch (fun c => decide (c.offset < lo ∨ hi < c.offset)) l 0 (dropCount l.length + 1)
      (by omega) fun i hil _ hi2 => decide_eq_true (.inl (by
        have := offset_le_of_le hsorted (i := i) (j := dropCount l.length + 0) (by omega) hlo
        omega))
    omega
  · by_contra hlt
    rw [highest_eq hne', ehi] at hlt
    have := length_le_filter_of_stretch (fun c => decide (c.offset < lo ∨ hi < c.offset)) l
      (dropCount l.length + ((kept l).length - 1)) (dropCount l.length + 1) (by omega)
      fun i hil hi1 hi2 => decide_eq_true (.inr (by
        have := offset_le_of_le hsorted (i := dropCount l.length + ((kept l).length - 1)) (j := i) (by omega) hil
        omega))
    omega

/-! ## The rows at a round end (R25, R33 to R35) -/

theorem candidate_iff (round : Round) (station : Nat) :
    round.candidate station = true ↔ ∃ x ∈ round.sorted, x.station = station := by
  simp [Round.candidate, List.any_eq_true]

/-- Whether the discard stage finds a row's offset dropped and far from the midpoint (R33). -/
def Row.Far (round : Round) (threshold : Nat) (row : Row) : Prop :=
  (∀ x ∈ kept round.sorted, x.station ≠ row.station) ∧ threshold < (row.offset - midpoint round.sorted).natAbs

theorem discard_of_not_candidate {round : Round} {row : Row} (threshold : Nat)
    (h : ¬ ∃ x ∈ round.sorted, x.station = row.station) : row.discard round threshold = row := by
  unfold Row.discard
  rw [if_neg (by rwa [candidate_iff])]

theorem discard_of_candidate {round : Round} {row : Row} (threshold : Nat)
    (h : ∃ x ∈ round.sorted, x.station = row.station) [Decidable (row.Far round threshold)] :
    row.discard round threshold =
      if row.Far round threshold then
        (if 7 ≤ row.run then { row with state := .excluded, excludedFor := 32, run := 0 }
         else { row with run := row.run + 1 })
      else { row with run := 0 } := by
  have hc := (candidate_iff round row.station).mpr h
  have hfar : (round.dropped row.station && decide (threshold < (row.offset - midpoint round.sorted).natAbs)) = true ↔
      row.Far round threshold := by
    simp [Round.dropped, hc, Row.Far]
  unfold Row.discard
  rw [if_pos hc]
  refine if_congr hfar (if_congr (by omega) rfl rfl) rfl

theorem discard_age (round : Round) (threshold : Nat) (row : Row) :
    (row.discard round threshold).age = row.age ∧ (row.discard round threshold).station = row.station := by
  unfold Row.discard
  split_ifs <;> exact ⟨rfl, rfl⟩

/-- The countdown of an EXCLUDED row (R34). -/
theorem countDown_eq {row : Row} (h : row.state = .excluded) : row.countDown = { row with
    excludedFor := row.excludedFor - 1, state := if row.excludedFor - 1 = 0 then .live else .excluded } := by
  unfold Row.countDown
  split
  · rename_i h0; rw [h0]
  · rw [← h]

/-- The ageing of a row (R35). -/
theorem grow_eq (fresh : Bool) (row : Row) : row.grow fresh =
    if row.state = .empty ∨ fresh = true then row
    else if 15 ≤ row.age then Row.emptyOf row.station
    else { row with age := row.age + 1, state := if row.state = .live ∧ 2 ≤ row.age then .stale else row.state } := by
  unfold Row.grow
  refine if_congr Iff.rfl rfl ?_
  dsimp only
  by_cases h15 : 15 ≤ row.age
  · rw [if_pos h15, if_pos (by omega)]
  · rw [if_neg h15, if_neg (by omega), show min (row.age + 1) 16 = row.age + 1 by omega]
    by_cases h2 : row.state = .live ∧ 2 ≤ row.age
    · rw [if_pos h2, if_pos ⟨h2.1, by omega⟩]
    · rw [if_neg h2, if_neg fun h => h2 ⟨h.1, by omega⟩]

/-- A row behind the discard stage and the countdown (R33, R34). -/
def Row.settled (round : Round) (threshold : Nat) (row : Row) : Row :=
  if row.state = .excluded then row.countDown else row.discard round threshold

theorem endRound_eq (round : Round) (cfg : Settings) (roundEnd : NodeTime) (row : Row) :
    row.endRound round cfg roundEnd =
      { (row.settled round cfg.exclusion).grow (row.freshAt cfg.periodNs roundEnd) with fresh := false } := rfl

theorem settled_age (round : Round) (threshold : Nat) (row : Row) :
    (row.settled round threshold).age = row.age ∧ (row.settled round threshold).station = row.station := by
  unfold Row.settled
  split
  · rw [countDown_eq ‹_›]; exact ⟨rfl, rfl⟩
  · exact discard_age _ _ _

/-- The round of the chapter in which station 12 drifts away. -/
def driftRound : Round :=
  { tier := .settled
    sorted := sortCandidates [⟨3, 0⟩, ⟨2, 100⟩, ⟨5, -200⟩, ⟨7, 300⟩, ⟨9, -50⟩, ⟨12, 7000000⟩]
    self := true }

theorem driftRound_midpoint : midpoint driftRound.sorted = 125 := by decide +kernel

theorem driftRound_spread : spread driftRound.sorted = 350 := by decide +kernel

theorem driftRound_far {row : Row} (hst : row.station = 12) (hoff : row.offset = 7000000) :
    row.Far driftRound 1000000 := by
  unfold Row.Far
  rw [driftRound_midpoint, hst, hoff]
  exact ⟨by decide +kernel, by omega⟩

theorem driftRound_candidate {row : Row} (hst : row.station = 12) :
    ∃ x ∈ driftRound.sorted, x.station = row.station := by
  rw [hst]; decide +kernel

theorem driftRound_discard {row : Row} (hst : row.station = 12) (hoff : row.offset = 7000000) :
    row.discard driftRound 1000000 =
      if 7 ≤ row.run then { row with state := .excluded, excludedFor := 32, run := 0 }
      else { row with run := row.run + 1 } := by
  classical
  rw [discard_of_candidate 1000000 (driftRound_candidate hst), if_pos (driftRound_far hst hoff)]

/-- The countdown and the ageing of a row that is no candidate (R25, R34, R35). -/
theorem endRound_of_not_candidate (round : Round) (cfg : Settings) (roundEnd : NodeTime) (row : Row)
    (hc : round.candidate row.station = false) :
    let left := row.excludedFor - 1
    let row1 : Row :=
      if row.state = .excluded then
        { row with excludedFor := left, state := if left = 0 then .live else .excluded, fresh := false }
      else { row with fresh := false }
    row.endRound round cfg roundEnd =
      if row.state = .empty ∨ row.freshAt cfg.periodNs roundEnd = true then row1
      else if 15 ≤ row.age then Row.emptyOf row.station
      else { row1 with
        age := row.age + 1
        state := if row1.state = .live ∧ 2 ≤ row.age then .stale else row1.state } := by
  have hno : ¬ ∃ x ∈ round.sorted, x.station = row.station := by rw [← candidate_iff, hc]; exact Bool.false_ne_true
  have hage := settled_age round cfg.exclusion row
  have hset : row.settled round cfg.exclusion = if row.state = .excluded then
      { row with excludedFor := row.excludedFor - 1, state := if row.excludedFor - 1 = 0 then .live else .excluded }
      else row := by
    unfold Row.settled
    split
    · exact countDown_eq ‹_›
    · exact discard_of_not_candidate _ hno
  have hempty : (row.settled round cfg.exclusion).state = .empty ↔ row.state = .empty := by
    rw [hset]
    split
    · rename_i he
      simp only [he]
      split <;> simp
    · rfl
  dsimp only
  rw [endRound_eq, grow_eq, hage.1, hage.2]
  by_cases hstay : row.state = .empty ∨ row.freshAt cfg.periodNs roundEnd = true
  · rw [if_pos (hstay.imp_left hempty.mpr), if_pos hstay, hset]
    split <;> rfl
  · rw [if_neg fun h => hstay (h.imp_left hempty.mp), if_neg hstay]
    split
    · rfl
    · rw [hset]
      split <;> rfl

/-- Settles O25: the rows by the discard stage, the countdown and the ageing, and the worked rounds. -/
theorem rowsAgeAndAreExcluded : Obligations.RowsAgeAndAreExcluded := by
  refine ⟨fun round cfg roundEnd row hc _ => endRound_of_not_candidate round cfg roundEnd row hc,
    fun round threshold row => ?_, by decide +kernel, driftRound_midpoint, driftRound_spread,
    fun row hst hoff => driftRound_discard hst hoff⟩
  classical
  refine ⟨discard_of_not_candidate threshold, fun hc hfar => ?_, fun hc hfar => ?_⟩
  · rw [discard_of_candidate threshold hc, if_neg (show ¬ row.Far round threshold from hfar)]
  · rw [discard_of_candidate threshold hc, if_pos (show row.Far round threshold from hfar)]

theorem withAgr_withLine (s : State) (a : Agreement) (l : LineUnit) :
    (s.withAgr a).withLine l = { s with agr := a, line := l } := rfl

theorem periodNs_eq (cfg : Settings) : cfg.periodNs = cfg.period * 1000000000 := rfl

/-- Settles O26: the MARK timer goes on, and the slot takes the MARK. -/
theorem markInstantHandsAMark : Obligations.MarkInstantHandsAMark := by
  intro s hrun hdue
  have hd : markDue s = true := by simp [markDue, hrun, hdue]
  show Host.Outcome.next (if markDue s then handMark s else s) = _
  rw [if_pos hd]
  unfold handMark
  rw [withAgr_withLine, periodNs_eq]
  rfl

end Sys2Proof.Machine
end

section
/-! Which flags are set, and the round end whole. -/

namespace Sys2Proof.Machine

variable {s t : State}

/-! ## Which flags are set (R167) -/

/-- The 26 flags in a list. -/
def everyFlag : List Flag :=
  [.refAcquired, .refLost, .stepped, .holdover, .spreadHigh, .labelStep, .duplicate, .lineStuck, .frameDropped,
   .bankDrop, .peerExcluded, .saturated, .compStepped, .compLimit, .tableEdge, .probeFail, .deltaF, .ringWrap,
   .ownDeferred, .forcedInto, .listFull, .cycleSkipped, .powerOn, .extReset, .configDefault, .configClamped]

theorem mem_everyFlag (f : Flag) : f ∈ everyFlag := by cases f <;> decide

/-- The flags of one group have bits of their own (R195). -/
theorem Flag.mask_disjoint (f g : Flag) (h : g.group = f.group) :
    g.mask &&& f.mask = if f = g then f.mask else 0#8 := by
  have hall : ∀ a ∈ everyFlag, ∀ b ∈ everyFlag, b.group = a.group →
      b.mask &&& a.mask = if a = b then a.mask else 0#8 := by decide +kernel
  exact hall f (mem_everyFlag f) g (mem_everyFlag g) h

theorem Flag.mask_ne_zero (f : Flag) : f.mask ≠ 0#8 := by cases f <;> decide

theorem flagIsSet_iff (f : Flag) (s : State) : flagIsSet f s = true ↔ s.flag.flags.get f.group &&& f.mask ≠ 0#8 :=
  decide_eq_true_iff

/-- A setting sets its flag and no other. -/
theorem flagIsSet_setFlag (f g : Flag) (s : State) :
    flagIsSet f (setFlag g s) = true ↔ flagIsSet f s = true ∨ f = g := by
  rw [flagIsSet_iff, flagIsSet_iff, setFlag_flags, PerGroup.get_set]
  by_cases hg : g.group = f.group
  · rw [if_pos hg.symm, hg, byte_or_and, f.mask_disjoint g hg]
    by_cases hf : f = g
    · subst hf
      simp [f.mask_ne_zero]
    · simp [hf]
  · rw [if_neg fun e => hg e.symm]
    exact ⟨.inl, fun h => h.elim id fun e => absurd (congrArg Flag.group e).symm hg⟩

theorem flagIsSet_setFlagIf (b : Bool) (f g : Flag) (s : State) :
    flagIsSet f (setFlagIf b g s) = true ↔ flagIsSet f s = true ∨ (b = true ∧ f = g) := by
  unfold setFlagIf
  cases b with
  | true => simp [flagIsSet_setFlag]
  | false => simp

/-- The flags that a request at the clock, or an overwrite in its notes, may set (R11, R13, R147). -/
def requestFlags : List Flag := [.stepped, .refLost, .holdover, .ringWrap]

theorem flagIsSet_commit {f : Flag} (r : Record) (s : State) (hf : f ≠ .ringWrap) :
    flagIsSet f (commit r s) = true ↔ flagIsSet f s = true := by
  unfold commit
  rw [flagIsSet_setFlagIf]
  exact ⟨fun h => h.elim id fun e => absurd e.2 hf, .inl⟩

theorem flagIsSet_stepEvent {f : Flag} (c : Int) (s : State) (hf : f ≠ .ringWrap) :
    flagIsSet f (stepEvent c s) = true ↔ flagIsSet f s = true ∨ f = .stepped := by
  unfold stepEvent commitNote
  rw [flagIsSet_setFlag, flagIsSet_commit _ _ hf]
  rfl

theorem flagIsSet_stateChanged {f : Flag} (old : Timebase) (s : State) (hf : f ≠ .ringWrap) :
    flagIsSet f (stateChanged old s) = true ↔ flagIsSet f s = true ∨ (old = .referenced ∧ f = .refLost) ∨
      (s.clock.state = .holdover ∧ f = .holdover) := by
  unfold stateChanged commitNote
  rw [flagIsSet_setFlagIf, flagIsSet_setFlagIf, flagIsSet_commit _ _ hf]
  simp only [decide_eq_true_eq, or_assoc]

/-- The flags behind the step of a request. -/
theorem flagIsSet_afterStep {f : Flag} (q : Request) (s : State) (hf : f ≠ .ringWrap) :
    flagIsSet f (q.afterStep s) = true ↔
      flagIsSet f s = true ∨ ((q.stepMade s.cfg.period s.clock).isSome = true ∧ f = .stepped) := by
  unfold Request.afterStep
  dsimp only
  cases q.stepMade s.cfg.period s.clock with
  | none => simp only [Option.elim_none, Option.isSome_none, Bool.false_eq_true, false_and, or_false]; rfl
  | some c =>
    rw [Option.elim_some, flagIsSet_stepEvent _ _ hf]
    simp only [Option.isSome_some, true_and]
    rfl

theorem afterStep_clock (q : Request) (s : State) : (q.afterStep s).clock = q.clockAfter s.cfg.period s.clock := by
  unfold Request.afterStep
  dsimp only
  cases q.stepMade s.cfg.period s.clock with
  | none => rfl
  | some c => exact clock_of_env (stepEvent_env c _)

/-- The flags of a request that is taken (R11, R13). -/
theorem flagIsSet_takeRequest {f : Flag} {q : Request} (h : q.takenIn s.clock.state = true) (hf : f ≠ .ringWrap) :
    flagIsSet f (takeRequest q s) = true ↔ flagIsSet f s = true ∨
      ((q.stepMade s.cfg.period s.clock).isSome = true ∧ f = .stepped) ∨
      (q.result ≠ s.clock.state ∧ ((s.clock.state = .referenced ∧ f = .refLost) ∨
        (q.result = .holdover ∧ f = .holdover))) := by
  rw [takeRequest_afterStep h]
  split
  · rename_i e
    simp [flagIsSet_afterStep q s hf, e]
  · rename_i e
    rw [flagIsSet_stateChanged _ _ hf, flagIsSet_afterStep q s hf, afterStep_clock, q.clockAfter_state]
    simp only [ne_eq, e, not_false_eq_true, true_and, or_assoc]

/-- A request sets no other flags. -/
theorem flagIsSet_takeRequest_other {f : Flag} (q : Request) (s : State) (hf : f ∉ requestFlags) :
    flagIsSet f (takeRequest q s) = true ↔ flagIsSet f s = true := by
  simp only [requestFlags, List.mem_cons, List.not_mem_nil, or_false, not_or] at hf
  obtain ⟨h1, h2, h3, h4⟩ := hf
  by_cases h : q.takenIn s.clock.state = true
  · rw [flagIsSet_takeRequest h h4]
    simp only [h1, h2, h3, and_false, or_false]
  · rw [takeRequest_ignored (by simpa using h)]

/-! ## The round end (R17, R21, R26 to R35, R53 to R57) -/

theorem countRound_eq (p : LineState × Nat) : countRound p =
    match p.1 with
    | .silent => if p.2 = 0 then (.silent, 1) else (.active, 0)
    | .muted => if 15 ≤ p.2 then (.silent, 0) else (.muted, p.2 + 1)
    | .active => p
    | .stuck => p := by
  obtain ⟨st, n⟩ := p
  cases st with
  | silent =>
    by_cases h : n = 0
    · subst h; rfl
    · simp only [countRound]; rw [if_pos (by omega), if_neg h]
  | muted =>
    simp only [countRound]
    exact if_congr (by omega) rfl rfl
  | active | stuck => rfl

theorem lineCountRound_stuck {l : LineUnit} (h : l.state = .stuck) :
    l.countRound = { l with ret := l.ret.map countRound } := by
  unfold LineUnit.countRound
  rw [if_pos h]

theorem lineCountRound_of_ne {l : LineUnit} (h : l.state ≠ .stuck) : l.countRound = { l with
    state := (countRound (l.state, l.roundCount)).1, roundCount := (countRound (l.state, l.roundCount)).2 } := by
  unfold LineUnit.countRound
  rw [if_neg h]

/-- The node itself is the one candidate (R29). -/
theorem alone_iff (cfg : Settings) (own : Timebase) (roundEnd : NodeTime) (rows : List Row) :
    (findRound cfg own roundEnd rows).alone = true ↔
      (findRound cfg own roundEnd rows).sorted = [{ station := cfg.station, offset := 0 }] ∧
        (findRound cfg own roundEnd rows).self = true := by
  unfold Round.alone
  rw [Bool.and_eq_true, decide_eq_true_eq]
  constructor
  · rintro ⟨hself, hlen⟩
    refine ⟨?_, hself⟩
    have hown : own.tier = (findRound cfg own roundEnd rows).tier := of_decide_eq_true hself
    have hmem := (mem_findRound cfg own roundEnd rows _).mpr (.inl ⟨hown, rfl⟩)
    obtain ⟨x, hx⟩ := List.length_eq_one_iff.mp hlen
    rw [hx] at hmem ⊢
    rw [List.mem_singleton.mp hmem]
  · rintro ⟨hsorted, hself⟩
    exact ⟨hself, by rw [hsorted]; rfl⟩

theorem towardZero_two (x : Int) : towardZero x 2 = Int.tdiv x 2 := by
  unfold towardZero
  split
  · rename_i h
    rw [Int.tdiv_eq_ediv_of_nonneg h]; omega
  · rename_i h
    obtain ⟨y, rfl⟩ : ∃ y, x = -y := ⟨-x, by omega⟩
    rw [Int.neg_tdiv, Int.tdiv_eq_ediv_of_nonneg (by omega)]; omega

/-- The ends of what remains, and the correction between them (R30). -/
theorem midpoint_spec {cs : List Candidate} (hne : cs ≠ []) (hs : cs.Pairwise Candidate.Le) :
    (∃ x ∈ kept cs, x.offset = lowest cs) ∧ (∃ x ∈ kept cs, x.offset = highest cs) ∧
      (∀ x ∈ kept cs, lowest cs ≤ x.offset ∧ x.offset ≤ highest cs) ∧
      midpoint cs = Int.tdiv (lowest cs + highest cs) 2 := by
  have hkept : (kept cs).Pairwise Candidate.Le := hs.sublist ((List.take_sublist _ _).trans (List.drop_sublist _ _))
  refine ⟨⟨_, List.getElem_mem _, (lowest_eq hne).symm⟩, ⟨_, List.getElem_mem _, (highest_eq hne).symm⟩,
    fun x hx => ?_, towardZero_two _⟩
  obtain ⟨i, hi, rfl⟩ := List.getElem_of_mem hx
  rw [lowest_eq hne, highest_eq hne]
  exact ⟨offset_le_of_le hkept (Nat.zero_le i) hi,
    offset_le_of_le hkept (by omega) (Nat.sub_lt (kept_length hne) Nat.one_pos)⟩

/-- What a round end leaves before its request (R17, R21, R32 to R35, R53). -/
theorem closeRound_blocks (round : Round) (s : State) : let u := closeRound round s
    u.agr = { s.agr with
      rows := s.agr.rows.map (Row.endRound round s.cfg s.agr.nextRound), summary := round.summary
      lastRound := some s.agr.nextRound, nextRound := plus s.agr.nextRound (s.cfg.periodNs : Nat), roundCrossed := true } ∧
    u.ref = s.ref ∧ u.win = s.win ∧ u.acq = s.acq ∧ u.corr = s.corr ∧ u.ring = s.ring ∧
    u.line.butState = s.line.countRound.butState := by
  simp [closeRound]

theorem closeRound_flags {f : Flag} (round : Round) (s : State) : flagIsSet f (closeRound round s) = true ↔
    flagIsSet f s = true ∨ ((s.cfg.spreadLimit : Int) < round.summary.spread ∧ f = .spreadHigh) ∨
      (s.agr.rows.any (Row.becomesExcluded round s.cfg) = true ∧ f = .peerExcluded) := by
  unfold closeRound
  dsimp only
  rw [flagIsSet_setFlagIf, flagIsSet_setFlagIf, decide_eq_true_eq, or_assoc]
  rfl

/-- What a request at the end of a round leaves of the blocks: all as they are, or what its step leaves (R13). -/
def Leaves (made : Option Int) (u t : State) : Prop :=
  (made = none → t.agr = u.agr ∧ t.ref = u.ref ∧ t.win = u.win ∧ t.acq = u.acq ∧ t.line.butState = u.line.butState) ∧
  (∀ c, made = some c → let v := stepReactions c (u.withClock t.clock)
    t.agr = v.agr ∧ t.ref = v.ref ∧ t.win = v.win ∧ t.acq = v.acq ∧ t.line.butState = v.line.butState) ∧
  t.corr = u.corr ∧ t.base = u.base ∧ ∀ f, f ∉ requestFlags → (flagIsSet f t = true ↔ flagIsSet f u = true)

theorem leaves_self (u : State) : Leaves none u u :=
  ⟨fun _ => ⟨rfl, rfl, rfl, rfl, rfl⟩, fun _ h => absurd h (Option.some_ne_none _).symm, rfl, rfl, fun _ _ => Iff.rfl⟩

theorem stepEvent_line (c : Int) (s : State) :
    (stepEvent c s).line.butState = (stepReactions c s).line.butState := by
  simp [stepEvent, commitNote, commit]

theorem afterStep_line (q : Request) (s : State) : (q.afterStep s).line.butState =
    ((q.stepMade s.cfg.period s.clock).elim s.line fun c => (stepReactions c s).line).butState := by
  unfold Request.afterStep
  dsimp only
  cases q.stepMade s.cfg.period s.clock with
  | none => rfl
  | some c => exact stepEvent_line c _

/-- A request that is taken. -/
theorem takeRequest_leaves {q : Request} {u : State} (h : q.takenIn u.clock.state = true) :
    Leaves (q.stepMade u.cfg.period u.clock) u (takeRequest q u) := by
  obtain ⟨bagr, bref, bwin, bacq, bline, bcorr⟩ := takeRequest_blocks h
  obtain ⟨hsome, hnone⟩ := afterStep_blocks q u
  have hline := afterStep_line q u
  have hclock : (takeRequest q u).clock = (q.afterStep u).clock := by rw [takeRequest_clock h, afterStep_clock]
  have hcorr : (q.afterStep u).corr = u.corr := by
    cases hm : q.stepMade u.cfg.period u.clock with
    | none => rw [hnone hm]; rfl
    | some c => exact (hsome c hm).2.2.2.2.2
  refine ⟨fun hm => ?_, fun c hm => ?_, bcorr.trans hcorr, takeRequest_base q u,
    fun f hf => flagIsSet_takeRequest_other q u hf⟩
  · rw [hm] at hline
    have e := hnone hm
    rw [e] at bagr bref bwin bacq
    exact ⟨bagr, bref, bwin, bacq, bline.trans hline⟩
  · obtain ⟨h1, h2, h3, h4, -, -⟩ := hsome c hm
    rw [hm] at hline
    rw [hclock]
    exact ⟨bagr.trans h1, bref.trans h2, bwin.trans h3, bacq.trans h4, bline.trans hline⟩

theorem isStep_iff (state : Timebase) (c : Int) (n : Nat) :
    isStep state c n = true ↔ state = .free ∨ 500000 * n < c.natAbs := by
  simp [isStep]

/-- The request of a round end, whole: what it makes of the clock and which step it makes (R28, R29, R31). -/
theorem roundEnd_leaves (s : State) :
    let round := findRound s.cfg s.clock.state s.agr.nextRound s.agr.rows
    let c := midpoint round.sorted
    let stepped := s.clock.state ≠ .referenced ∧ ¬ round.alone = true ∧
      (s.clock.state = .free ∨ 500000 * s.cfg.period < c.natAbs)
    (∃ made, Leaves made (closeRound round s) (roundEnd s) ∧ (stepped → made = some c) ∧ (¬ stepped → made = none)) ∧
    (if s.clock.state = .referenced then (roundEnd s).clock = s.clock
     else if round.alone = true then
       (if s.clock.state = .agreed then (roundEnd s).clock = { s.clock with state := .holdover, slew := 0 }
        else (roundEnd s).clock = s.clock)
     else (roundEnd s).clock.state = .agreed ∧ Applied c s.cfg.period s.clock (roundEnd s).clock) := by
  dsimp only
  generalize hround : findRound s.cfg s.clock.state s.agr.nextRound s.agr.rows = round
  have hclock := closeRound_clock round s
  have hcfg : (closeRound round s).cfg = s.cfg := cfg_of_env (closeRound_env round s)
  have hend : roundEnd s = match round.request s.clock.state with
      | none => closeRound round s
      | some q => takeRequest q (closeRound round s) := by rw [← hround]; rfl
  have hunmoved : roundEnd s = closeRound round s → Leaves none (closeRound round s) (roundEnd s) ∧
      (roundEnd s).clock = s.clock := fun e => by rw [e]; exact ⟨leaves_self _, hclock⟩
  rw [hend] at *
  unfold Round.request at *
  by_cases href : s.clock.state = .referenced
  · rw [if_pos href] at *
    obtain ⟨h1, h2⟩ := hunmoved rfl
    exact ⟨⟨none, h1, fun h => absurd href h.1, fun _ => rfl⟩, by rw [if_pos href]; exact h2⟩
  · rw [if_neg href] at *
    by_cases halone : round.alone = true
    · rw [if_pos halone] at *
      by_cases hagr : s.clock.state = .agreed
      · rw [if_pos hagr] at *
        have ht : Request.takenIn .holdover (closeRound round s).clock.state = true := by
          rw [hclock]; simp [Request.takenIn, hagr]
        refine ⟨⟨_, takeRequest_leaves ht, fun h => absurd halone h.2.1, fun _ => rfl⟩, ?_⟩
        rw [if_neg href, if_pos halone, if_pos hagr]
        exact (takeRequest_noCorrection ht rfl rfl).trans (by rw [hclock])
      · rw [if_neg hagr] at *
        obtain ⟨h1, h2⟩ := hunmoved rfl
        refine ⟨⟨none, h1, fun h => absurd halone h.2.1, fun _ => rfl⟩, ?_⟩
        rw [if_neg href, if_pos halone, if_neg hagr]
        exact h2
    · rw [if_neg halone] at *
      have ht : Request.takenIn (.round (midpoint round.sorted)) (closeRound round s).clock.state = true := by
        rw [hclock]; simp [Request.takenIn, href]
      have happ := takeRequest_applied ht rfl (by simp [Request.result])
      have hmade : Request.stepMade (closeRound round s).cfg.period (.round (midpoint round.sorted))
          (closeRound round s).clock =
          if isStep s.clock.state (midpoint round.sorted) s.cfg.period then some (midpoint round.sorted) else none := by
        rw [hclock, hcfg]; rfl
      refine ⟨⟨_, takeRequest_leaves ht, fun h => ?_, fun h => ?_⟩, ?_⟩
      · rw [hmade, if_pos ((isStep_iff _ _ _).mpr h.2.2)]
      · rw [hmade, if_neg fun hi => h ⟨href, halone, (isStep_iff _ _ _).mp hi⟩]
      · rw [if_neg href, if_neg halone]
        rw [hclock, hcfg] at happ
        exact happ

/-- The discard stage excludes a candidate far away for the eighth time (R33). -/
theorem becomesExcluded_iff (round : Round) (cfg : Settings) (row : Row) :
    row.becomesExcluded round cfg = true ↔ row.state ≠ .excluded ∧
      ((∃ x ∈ round.sorted, x.station = row.station) ∧ row.Far round cfg.exclusion) ∧ 7 ≤ row.run := by
  classical
  unfold Row.becomesExcluded
  rw [Bool.and_eq_true, decide_eq_true_eq, decide_eq_true_eq]
  refine and_congr_right fun hne => ?_
  by_cases hc : ∃ x ∈ round.sorted, x.station = row.station
  · rw [discard_of_candidate _ hc]
    by_cases hf : row.Far round cfg.exclusion
    · rw [if_pos hf]
      by_cases hr : 7 ≤ row.run
      · rw [if_pos hr]; exact ⟨fun _ => ⟨⟨hc, hf⟩, hr⟩, fun _ => rfl⟩
      · rw [if_neg hr]; exact ⟨fun h => absurd h hne, fun h => absurd h.2 hr⟩
    · rw [if_neg hf]; exact ⟨fun h => absurd h hne, fun h => absurd h.1.2 hf⟩
  · rw [discard_of_not_candidate _ hc]; exact ⟨fun h => absurd h hne, fun h => absurd h.1.1 hc⟩

/-- A row behind the discard stage and the countdown, in its cases (R33, R34). -/
theorem settled_cases (round : Round) (threshold : Nat) (row : Row) : let row1 := row.settled round threshold
    (row.state = .excluded → row1 = { row with
      excludedFor := row.excludedFor - 1, state := if row.excludedFor - 1 = 0 then .live else .excluded }) ∧
    (row.state ≠ .excluded →
      ((∃ x ∈ round.sorted, x.station = row.station) ∧ row.Far round threshold →
        row1 = if 7 ≤ row.run then { row with state := .excluded, excludedFor := 32, run := 0 }
          else { row with run := row.run + 1 }) ∧
      (¬ ((∃ x ∈ round.sorted, x.station = row.station) ∧ row.Far round threshold) →
        (∃ x ∈ round.sorted, x.station = row.station) → row1 = { row with run := 0 }) ∧
      ((∀ x ∈ round.sorted, x.station ≠ row.station) → row1 = row)) := by
  classical
  dsimp only
  unfold Row.settled
  refine ⟨fun he => by rw [if_pos he]; exact countDown_eq he, fun hne => ?_⟩
  rw [if_neg hne]
  refine ⟨fun ⟨hc, hf⟩ => ?_, fun hn hc => ?_, fun hno => ?_⟩
  · rw [discard_of_candidate _ hc, if_pos hf]
  · rw [discard_of_candidate _ hc, if_neg fun hf => hn ⟨hc, hf⟩]
  · exact discard_of_not_candidate _ fun ⟨x, hx, e⟩ => hno x hx e

/-- The ageing behind it, in its cases (R25, R35). -/
theorem aged_cases (round : Round) (threshold : Nat) (fresh : Bool) (row : Row) :
    let row1 := row.settled round threshold
    (row1.state = .empty ∨ fresh = true → row1.grow fresh = row1) ∧
    (row1.state ≠ .empty → ¬ fresh = true → row1.grow fresh = if 15 ≤ row.age then Row.emptyOf row.station
      else { row1 with
        age := row.age + 1, state := if row1.state = .live ∧ 2 ≤ row.age then .stale else row1.state }) := by
  obtain ⟨hage, hstation⟩ := settled_age round threshold row
  dsimp only
  rw [grow_eq, hage, hstation]
  exact ⟨fun h => if_pos h, fun h1 h2 => if_neg (not_or.mpr ⟨h1, h2⟩)⟩

/-- The line's round count at a round end (R53, R54, R56, R57). -/
theorem lineCountRound_cases (l : LineUnit) :
    (l.state = .stuck → l.countRound.state = .stuck ∧ l.countRound.roundCount = l.roundCount ∧
      l.countRound.ret = l.ret.map countRound) ∧
    (l.state ≠ .stuck → (l.countRound.state, l.countRound.roundCount) = countRound (l.state, l.roundCount) ∧
      l.countRound.ret = l.ret) ∧ l.countRound.queue = l.queue := by
  refine ⟨fun h => ?_, fun h => ?_, ?_⟩
  · rw [lineCountRound_stuck h]; exact ⟨h, rfl, rfl⟩
  · rw [lineCountRound_of_ne h]; exact ⟨rfl, rfl⟩
  · unfold LineUnit.countRound; split <;> rfl

/-- The parts of the line that no request changes. -/
theorem Leaves.line {made : Option Int} {u : State} (h : Leaves made u t) : t.line.state = u.line.state ∧
    t.line.roundCount = u.line.roundCount ∧ t.line.ret = u.line.ret := by
  obtain ⟨hnone, hsome, -⟩ := h
  have key : ∃ q, t.line.butState = ({ u.line with queue := q } : LineUnit).butState := by
    cases made with
    | none => exact ⟨u.line.queue, (hnone rfl).2.2.2.2⟩
    | some c => exact ⟨_, (hsome c rfl).2.2.2.2⟩
  obtain ⟨q, e⟩ := key
  exact ⟨(congrArg LineUnit.state e :), (congrArg LineUnit.roundCount e :), (congrArg LineUnit.ret e :)⟩

/-- The Agreement Unit's parts that no request changes. -/
theorem Leaves.agr {made : Option Int} {u : State} (h : Leaves made u t) : t.agr.lastRound = u.agr.lastRound ∧
    t.agr.roundCrossed = u.agr.roundCrossed ∧ t.agr.summary = u.agr.summary := by
  obtain ⟨hnone, hsome, -⟩ := h
  cases made with
  | none => rw [(hnone rfl).1]; exact ⟨rfl, rfl, rfl⟩
  | some c => rw [(hsome c rfl).1]; exact ⟨rfl, rfl, rfl⟩

end Sys2Proof.Machine
end

section
/-! The round end whole. -/

namespace Sys2Proof.Machine

variable {s t : State}

theorem execRoundEnd_due (h : roundDue s = true) : exec .roundEnd s = .next (roundEnd s) := by
  show Host.Outcome.next (if roundDue s then roundEnd s else s) = _
  rw [if_pos h]

/-- Settles O24: what the round end leaves before its request, and what the request makes of it. -/
theorem roundEndIsTaken : Obligations.RoundEndIsTaken := by
  intro s hrun hdue
  have hd : roundDue s = true := by simp [roundDue, hrun, hdue]
  obtain ⟨⟨made, hleaves, hstep, hstay⟩, hclock⟩ := roundEnd_leaves s
  have hne := findRound_ne_nil s.cfg s.clock.state s.agr.nextRound s.agr.rows
  have hsorted : (findRound s.cfg s.clock.state s.agr.nextRound s.agr.rows).sorted.Pairwise Candidate.Le :=
    sortCandidates_pairwise _
  have halone := alone_iff s.cfg s.clock.state s.agr.nextRound s.agr.rows
  dsimp only at hleaves hstep hstay hclock ⊢
  simp only [← halone]
  generalize hround : findRound s.cfg s.clock.state s.agr.nextRound s.agr.rows = round at *
  obtain ⟨hlo, hhi, hbetween, hmid⟩ := midpoint_spec hne hsorted
  obtain ⟨uagr, uref, uwin, uacq, ucorr, -, uline⟩ := closeRound_blocks round s
  obtain ⟨alast, across, asum⟩ := hleaves.agr
  obtain ⟨lstate, lcount, lret⟩ := hleaves.line
  have hbase := hleaves.2.2.2.1.trans (base_of_env (closeRound_env round s))
  obtain ⟨lstuck, lother, lqueue⟩ := lineCountRound_cases s.line
  have hsum : (roundEnd s).agr.summary = round.summary := asum.trans (by rw [uagr])
  have hflag : ∀ f, f ∉ requestFlags → (flagIsSet f (roundEnd s) = true ↔ flagIsSet f s = true ∨
      ((s.cfg.spreadLimit : Int) < round.summary.spread ∧ f = .spreadHigh) ∨
        (s.agr.rows.any (Row.becomesExcluded round s.cfg) = true ∧ f = .peerExcluded)) := fun f hf =>
    (hleaves.2.2.2.2 f hf).trans (closeRound_flags round s)
  have hstate : (roundEnd s).line.state = s.line.countRound.state := lstate.trans (LineUnit.state_of_butState uline)
  have hcount : (roundEnd s).line.roundCount = s.line.countRound.roundCount :=
    lcount.trans (congrArg LineUnit.roundCount uline :)
  have hret : (roundEnd s).line.ret = s.line.countRound.ret := lret.trans (congrArg LineUnit.ret uline :)
  refine ⟨⟨_, _, hlo, hhi, hbetween, hmid, rfl⟩, roundEnd s, execRoundEnd_due hd, alast.trans (by rw [uagr]),
    across.trans (by rw [uagr]), by rw [hsum]; rfl, fun h => by rw [hsum]; exact if_neg h,
    fun h => by rw [hsum]; exact if_pos h, ?spreadHigh, ?excluded, ?rows, hclock, fun h => ?unstepped, fun h => ?stepped,
    fun h => ?stuck, fun h => ?counted, congrArg (·.1) hbase, congrArg (·.2.1) hbase, congrArg (·.2.2.1) hbase,
    congrArg (·.2.2.2) hbase, hleaves.2.2.1.trans ucorr⟩
  case spreadHigh =>
    rw [hflag .spreadHigh (by decide), hsum]
    simp
  case excluded =>
    rw [hflag .peerExcluded (by decide)]
    simp only [List.any_eq_true, becomesExcluded_iff, reduceCtorEq, and_false, false_or, and_true]
    simp only [Row.Far, and_assoc]
    rfl
  case rows =>
    refine ⟨fun row => (row.settled round s.cfg.exclusion).grow (row.freshAt s.cfg.periodNs s.agr.nextRound), fun h => ?_,
      fun h => ?_, fun row _ => ⟨row.settled round s.cfg.exclusion, ?_⟩⟩
    · rw [(hleaves.1 (hstay h)).1, uagr]; rfl
    · rw [(hleaves.2.1 _ (hstep h)).1]
      show (closeRound round s).agr.rows.map (Row.onStep (midpoint round.sorted)) = _
      rw [uagr]
      exact List.map_map
    · obtain ⟨hexcl, hothers⟩ := settled_cases round s.cfg.exclusion row
      obtain ⟨hkept, hgrown⟩ := aged_cases round s.cfg.exclusion (row.freshAt s.cfg.periodNs s.agr.nextRound) row
      have hfresh := freshAt_iff s.cfg.periodNs s.agr.nextRound row
      rw [periodNs_cast] at hfresh
      simp only [← hfresh]
      refine ⟨hexcl, fun hne' => ?_, hkept, hgrown⟩
      obtain ⟨hfar, hnear, hnone⟩ := hothers hne'
      exact ⟨fun ⟨h1, h2⟩ => hfar ⟨h1, h2⟩, fun h1 h2 => hnear (fun ⟨h3, h4⟩ => h1 ⟨h3, h4⟩) h2, hnone⟩
  case unstepped =>
    obtain ⟨h1, h2, h3, h4, h5⟩ := hleaves.1 (hstay h)
    exact ⟨by rw [h1, uagr, periodNs_eq], h2.trans uref, h3.trans uwin, h4.trans uacq,
      (LineUnit.queue_of_butState (h5.trans uline)).trans lqueue⟩
  case stepped =>
    obtain ⟨h1, h2, h3, h4, h5⟩ := hleaves.2.1 _ (hstep h)
    have hcfg : (closeRound round s).cfg = s.cfg := cfg_of_env (closeRound_env round s)
    refine ⟨h2.trans (congrArg (RefInput.onStep _) uref), h3.trans (congrArg (WindowUnit.onStep _) uwin), h4.trans ?_,
      (LineUnit.queue_of_butState h5).trans
        (congrArg (List.map (Queued.onStep _)) ((LineUnit.queue_of_butState uline).trans lqueue)),
      fun hperiod _ _ => ?_⟩
    · show Acquisition.onStep (closeRound round s).cfg (roundEnd s).reading _ (closeRound round s).acq = _
      rw [hcfg, uacq]
      rfl
    · have hp : 0 < s.cfg.periodNs ∧ 2 * s.cfg.periodNs < Config.halfCircle := by
        simp only [List.mem_cons, List.not_mem_nil, or_false] at hperiod
        simp only [Settings.periodNs, Config.second, Config.halfCircle]
        omega
      have hnext : (roundEnd s).agr.nextRound =
          nextOther (closeRound round s).cfg.periodNs 0 (roundEnd s).reading (closeRound round s).agr.lastRound := by
        rw [h1]; rfl
      rw [hnext, hcfg, uagr]
      exact nextOther_firstAfter _ hp.1 hp.2
  case stuck =>
    obtain ⟨h1, h2, h3⟩ := lstuck h
    refine ⟨hstate.trans h1, hcount.trans h2, hret.trans (h3.trans ?_)⟩
    exact congrArg (Option.map · s.line.ret) (funext countRound_eq)
  case counted =>
    obtain ⟨h1, h2⟩ := lother h
    rw [hstate, hcount, h1]
    exact ⟨countRound_eq _, hret.trans h2⟩

end Sys2Proof.Machine
end

section
/-! The Reference Input: pulses accepted, rejected and counted, the absence deadline, and the labels. -/

namespace Sys2Proof.Machine

variable {s t : State}

/-! ## The pulse error and the label difference (R40, R42, R47) -/

theorem secondsDifference_spec (n k : Nat) :
    -2147483648 ≤ secondsDifference n k ∧ secondsDifference n k ≤ 2147483647 ∧
      (4294967296 : Int) ∣ (n : Int) - (k : Int) - secondsDifference n k := by
  simp only [secondsDifference]
  split <;> omega

theorem isEarly_iff (n : Nat) (last : Option NodeTime) :
    isEarly n last = true ↔ ∃ l, last = some l ∧ diff n l < 500000000 := by
  simp [isEarly, Option.any_eq_true]

theorem pairedSecond_iff (n : Nat) (label : Option Label) (k : Nat) : pairedSecond n label = some k ↔
    ∃ l, label = some l ∧ l.count = k ∧ 100000000 ≤ diff n l.arrival ∧ diff n l.arrival ≤ 950000000 := by
  cases label with
  | none => simp [pairedSecond]
  | some l =>
    simp only [pairedSecond, Option.some.injEq, exists_eq_left']
    split
    · rename_i h; simp [h]
    · rename_i h; simp only [reduceCtorEq, false_iff]; exact fun hc => h hc.2

/-! ## A small correction of a node in REFERENCED (R6, R8, R43) -/

theorem execPulse_running (h : s.running = true) : exec .pulse s = .next (takePulse s) := by
  show Host.Outcome.next (if s.running then takePulse s else s) = _
  rw [if_pos h]

/-- A tracking correction of at most 500 µs is a slew, with no note and no flag. -/
theorem takeRequest_tracking {c : Int} (hs : s.clock.state = .referenced) (hc : c.natAbs ≤ 500000) :
    takeRequest (.tracking c) s = { s with clock := { s.clock with
      slew := c * 10000000, trim := clampTo (-10000) 10000 (s.clock.trim + towardZero c 16) } } := by
  have ht : Request.takenIn (.tracking c) s.clock.state = true := by simp [Request.takenIn, hs]
  have hnostep : ¬ isStep s.clock.state c 1 = true := by
    rw [isStep_iff, hs]
    simp only [reduceCtorEq, false_or]
    omega
  have hmade : Request.stepMade s.cfg.period (.tracking c) s.clock = none := if_neg hnostep
  rw [takeRequest_afterStep ht, if_pos (show Request.result (.tracking c) = s.clock.state from hs.symm)]
  unfold Request.afterStep
  dsimp only
  rw [hmade]
  have hafter : Request.clockAfter s.cfg.period (.tracking c) s.clock = { s.clock with
      slew := c * 10000000, trim := clampTo (-10000) 10000 (s.clock.trim + towardZero c 16) } := by
    unfold Request.clockAfter
    show Clock.enter (if isStep s.clock.state c 1 = true then _ else _) Timebase.referenced = _
    rw [if_neg hnostep]
    clear hmade hnostep ht
    generalize s.clock = k at *
    obtain ⟨seconds, nanoseconds, remainder, trim, slew, state⟩ := k
    obtain rfl : state = .referenced := hs
    rfl
  rw [hafter]
  rfl

theorem rejectsPulse_iff (early : Bool) (e : Int) :
    rejectsPulse early e = true ↔ early = true ∨ 100000 < e.natAbs := by
  simp [rejectsPulse]

/-- Any pulse of a started node in REFERENCED (R43). -/
theorem takePulse_referenced (h : s.clock.state = .referenced) : takePulse s =
    if rejectsPulse (isEarly s.reading s.ref.lastPulse) (pulseError s.reading) then
      countMiss (s.withRef (s.ref.met s.reading))
    else acceptPulse (pulseError s.reading) (pairedSecond s.reading s.ref.label) (pulseSecond s.reading)
      (s.withRef (s.ref.met s.reading)) := by
  unfold takePulse
  dsimp only
  rw [if_pos h]

/-- A pulse of a started node outside REFERENCED (R41). -/
theorem takePulse_other (h : s.clock.state ≠ .referenced) : takePulse s =
    acquisitionPulse (isEarly s.reading s.ref.lastPulse) (pulseError s.reading)
      (labelDifference (pairedSecond s.reading s.ref.label) (pulseSecond s.reading))
      (s.withRef (s.ref.met s.reading)) := by
  unfold takePulse
  dsimp only
  rw [if_neg h]

/-! The label check of an accepted pulse (R43, R48, R49). -/

theorem acceptPulse_unlabelled (e : Int) (k : Nat) (s : State) : acceptPulse e none k s =
    takeRequest (.tracking (-e)) (s.withRef { s.ref with missCount := 0 }) := rfl

theorem acceptPulse_agrees {e : Int} {n k : Nat} (h : labelDifference (some n) k = 0) : acceptPulse e (some n) k s =
    takeRequest (.tracking (-e)) (s.withRef { s.ref with missCount := 0, mismatch := none }) := by
  unfold acceptPulse
  dsimp only
  rw [if_pos h]
  rfl

theorem acceptPulse_mismatch {e : Int} {n k : Nat} (h : labelDifference (some n) k ≠ 0)
    (hm : s.ref.mismatch ≠ some (labelDifference (some n) k)) : acceptPulse e (some n) k s =
      takeRequest (.tracking (-e))
        (s.withRef { s.ref with missCount := 0, mismatch := some (labelDifference (some n) k) }) := by
  unfold acceptPulse
  dsimp only
  rw [if_neg h, if_neg hm]
  rfl

theorem acceptPulse_steps {e : Int} {n k : Nat} (h : labelDifference (some n) k ≠ 0)
    (hm : s.ref.mismatch = some (labelDifference (some n) k)) : acceptPulse e (some n) k s =
      setFlag .labelStep (takeRequest (.labelStep (labelDifference (some n) k * 1000000000))
        (s.withRef { s.ref with missCount := 0, mismatch := none })) := by
  unfold acceptPulse
  dsimp only
  rw [if_neg h, if_pos hm]
  rfl

/-- Settles O27: the pulse's numbers, and the tracking slew of an accepted one. -/
theorem acceptedPulseIsTracked : Obligations.AcceptedPulseIsTracked := by
  refine ⟨fun sec ns last label hsec hns => ?numbers, fun n k _ _ => ⟨rfl, secondsDifference_spec n k⟩,
    fun s hrun hs hearly hlo hhi hd => ?tracked⟩
  case numbers =>
    refine ⟨fun h => ⟨?_, ?_⟩, fun h => ⟨?_, ?_⟩, isEarly_iff _ _, pairedSecond_iff _ _⟩
    all_goals
      simp only [pulseError, pulseSecond, secondsOf, Config.second, Config.circle]
      split_ifs <;> omega
  case tracked =>
    rw [execPulse_running hrun, takePulse_referenced hs, if_neg]
    · have hc : (-pulseError s.reading).natAbs ≤ 500000 := by omega
      cases hl : pairedSecond s.reading s.ref.label with
      | none =>
        rw [acceptPulse_unlabelled, if_pos rfl]
        exact congrArg Host.Outcome.next (takeRequest_tracking hs hc)
      | some n =>
        rw [hl] at hd
        rw [if_neg (by simp : ¬ (some n : Option Nat) = none)]
        by_cases h0 : labelDifference (some n) (pulseSecond s.reading) = 0
        · rw [acceptPulse_agrees h0, if_pos h0]
          exact congrArg Host.Outcome.next (takeRequest_tracking hs hc)
        · rw [acceptPulse_mismatch (s := s.withRef (s.ref.met s.reading)) h0 (hd.resolve_left h0), if_neg h0]
          exact congrArg Host.Outcome.next (takeRequest_tracking hs hc)
    · rw [rejectsPulse_iff, hearly]
      simp only [Bool.false_eq_true, false_or]
      omega

/-! ## The label step (R48 to R50) -/

theorem reading_eq (s : State) : s.clock.reading = s.reading := rfl

theorem Leaves.cfg {made : Option Int} {u : State} (h : Leaves made u t) : t.cfg = u.cfg :=
  congrArg (·.2.2.1) h.2.2.2.1

/-- A label step of a node in REFERENCED by more than 500 µs (R7, R13, R49, R50). -/
theorem takeRequest_labelStep {c : Int} (hs : s.clock.state = .referenced) (hc : 500000 < c.natAbs) :
    let t := takeRequest (.labelStep c) s
    t.clock.state = .referenced ∧ t.clock.reading = plus s.reading c ∧ t.clock.slew = 0 ∧ t.clock.trim = s.clock.trim ∧
      t.clock.remainder = s.clock.remainder ∧ t.ref = s.ref.onStep c ∧ t.acq.stepped = true ∧
      flagIsSet .stepped t = true ∧ t.cfg = s.cfg ∧ t.corr = s.corr := by
  have ht : Request.takenIn (.labelStep c) s.clock.state = true := by simp [Request.takenIn, hs]
  have hbeyond : s.clock.state = .free ∨ 500000 * 1 < c.natAbs := .inr (by omega)
  have hmade : Request.stepMade s.cfg.period (.labelStep c) s.clock = some c := if_pos ((isStep_iff _ _ _).mpr hbeyond)
  obtain ⟨hstate, happ⟩ := takeRequest_applied ht rfl (by simp [Request.result])
  unfold Applied at happ
  rw [if_pos hbeyond, reading_eq s] at happ
  obtain ⟨hread, -, hrem, htrim, hslew⟩ := happ
  have hl := takeRequest_leaves ht
  have hcfg := hl.cfg
  obtain ⟨-, hsome, hcorr, -, -⟩ := hl
  obtain ⟨-, href, -, hacq, -⟩ := hsome _ hmade
  exact ⟨hstate, hread, hslew, htrim, hrem, href, by rw [hacq]; rfl,
    (flagIsSet_takeRequest ht (by decide)).mpr (.inr (.inl ⟨by rw [hmade]; rfl, rfl⟩)), hcfg, hcorr⟩

/-- Settles O28: a difference of whole seconds is always beyond 500 µs, so the clock steps. -/
theorem secondMismatchStepsTheLabel : Obligations.SecondMismatchStepsTheLabel := by
  intro s hrun hs
  dsimp only
  intro hearly hlo hhi hd hm
  have hacc : ¬ rejectsPulse (isEarly s.reading s.ref.lastPulse) (pulseError s.reading) = true := by
    rw [rejectsPulse_iff, hearly]
    simp only [Bool.false_eq_true, false_or]
    omega
  cases hl : pairedSecond s.reading s.ref.label with
  | none => rw [hl] at hd; exact absurd rfl hd
  | some n =>
    rw [hl] at hd hm
    have hpulse := execPulse_running hrun
    rw [takePulse_referenced hs, if_neg hacc, hl, acceptPulse_steps (s := s.withRef (s.ref.met s.reading)) hd hm]
      at hpulse
    generalize labelDifference (some n) (pulseSecond s.reading) = d at *
    generalize hu : (s.withRef (s.ref.met s.reading)).withRef
      { (s.withRef (s.ref.met s.reading)).ref with missCount := 0, mismatch := none } = u at hpulse
    have huref : u.ref = { s.ref.met s.reading with missCount := 0, mismatch := none } := by rw [← hu]; rfl
    have huclock : u.clock = s.clock := by rw [← hu]; rfl
    have hucfg : u.cfg = s.cfg ∧ u.corr = s.corr := by rw [← hu]; exact ⟨rfl, rfl⟩
    obtain ⟨h1, h2, h3, h4, h5, h6, h7, h8, h9, h10⟩ :=
      takeRequest_labelStep (s := u) (c := d * 1000000000) (by rw [huclock, hs]) (by omega)
    have hread : u.reading = s.reading := by unfold State.reading; rw [huclock]
    refine ⟨_, hpulse, ?_⟩
    rw [setFlag_clock, setFlag_ref, setFlag_acq, setFlag_cfg, setFlag_corr, h2, h4, h5, h6, h9, h10, hread, huclock,
      huref, hucfg.1, hucfg.2]
    exact ⟨h1, rfl, h3, rfl, rfl, rfl, rfl, rfl, rfl, rfl, (flagIsSet_setFlag _ _ _).mpr (.inr rfl),
      (flagIsSet_setFlag _ _ _).mpr (.inl h8), h7, rfl, rfl⟩

/-! ## Misses (R43 to R45) -/

theorem execAbsence_due {due : NodeTime} (hrun : s.running = true) (hd : s.ref.deadline = some due)
    (hr : s.reached due = true) : exec .absenceDeadline s = .next (absence s) := by
  have hdue : absenceDue s = true := by
    unfold absenceDue
    rw [hrun, Bool.true_and, hd, Option.any_some, hr]
  show Host.Outcome.next (if absenceDue s then absence s else s) = _
  rw [if_pos hdue]

theorem countMiss_counts (h : s.ref.missCount < 2) :
    countMiss s = { s with ref := { s.ref with missCount := s.ref.missCount + 1 } } := by
  unfold countMiss
  rw [if_neg (by omega)]
  rfl

/-- The third miss loses the reference (R45). -/
theorem countMiss_loses (h : 2 ≤ s.ref.missCount) (hs : s.clock.state = .referenced) : let t := countMiss s
    t.clock = { s.clock with state := .holdover, slew := 0 } ∧
    t.ref = { s.ref with missCount := 0, acqCount := 0, prevError := none, mismatch := none } ∧
    flagIsSet .refLost t = true ∧ flagIsSet .holdover t = true ∧ t.agr = s.agr ∧ t.win = s.win ∧ t.acq = s.acq ∧
    t.cfg = s.cfg ∧ t.corr = s.corr := by
  dsimp only
  unfold countMiss
  rw [if_pos (by omega)]
  generalize hu : s.withRef { s.ref with missCount := 0, acqCount := 0, prevError := none, mismatch := none } = u
  have hclock : u.clock = s.clock := by rw [← hu]; rfl
  have ht : Request.takenIn .loss u.clock.state = true := by rw [hclock, hs]; rfl
  have hl := takeRequest_leaves ht
  have hcfg := hl.cfg
  obtain ⟨hnone, -, hcorr, -, -⟩ := hl
  obtain ⟨hagr, href, hwin, hacq, -⟩ := hnone rfl
  have hflag : ∀ f, f = .refLost ∨ f = .holdover → flagIsSet f (takeRequest .loss u) = true := fun f hf =>
    (flagIsSet_takeRequest ht (by rcases hf with rfl | rfl <;> decide)).mpr (.inr (.inr ⟨by rw [hclock, hs]; simp [Request.result],
      hf.imp (fun e => ⟨by rw [hclock, hs], e⟩) fun e => ⟨rfl, e⟩⟩))
  rw [takeRequest_noCorrection ht rfl rfl, href, hagr, hwin, hacq, hcorr, hclock, hcfg, ← hu]
  exact ⟨rfl, rfl, by rw [hu]; exact hflag _ (.inl rfl), by rw [hu]; exact hflag _ (.inr rfl), rfl, rfl, rfl, rfl, rfl⟩

/-- Settles O29: a reject or an expired deadline counts a miss, and the third is the loss. -/
theorem thirdMissLosesTheReference : Obligations.ThirdMissLosesTheReference := by
  intro s hrun hs
  dsimp only
  refine ⟨fun hrej => ?_, fun due hd hr => ?_⟩
  · have hpulse : exec .pulse s = .next (countMiss (s.withRef (s.ref.met s.reading))) := by
      rw [execPulse_running hrun, takePulse_referenced hs, if_pos ((rejectsPulse_iff _ _).mpr hrej)]
    refine ⟨fun hm => ?_, fun hm => ⟨_, hpulse, ?_⟩⟩
    · rw [hpulse, countMiss_counts (s := s.withRef (s.ref.met s.reading)) hm]; rfl
    · exact countMiss_loses (s := s.withRef (s.ref.met s.reading)) hm hs
  · have habs : exec .absenceDeadline s =
        .next (countMiss (s.withRef { s.ref with deadline := some (plus due 1200000000) })) := by
      rw [execAbsence_due hrun hd hr]
      unfold absence
      rw [if_pos hs, hd]
      rfl
    refine ⟨fun hm => ?_, fun hm => ⟨_, habs, ?_⟩⟩
    · rw [habs, countMiss_counts (s := s.withRef { s.ref with deadline := some (plus due 1200000000) }) hm]; rfl
    · exact countMiss_loses (s := s.withRef { s.ref with deadline := some (plus due 1200000000) }) hm hs

/-! ## Acquisition (R41, R42, R44) -/

/-- What restarts a run of acquisition pulses (R41). -/
def RunRestarts (early : Bool) (e : Int) (r : RefInput) : Prop :=
  r.prevError = none ∨ early = true ∨ ∃ p, r.prevError = some p ∧ 1000000 < (e - p).natAbs

theorem countAfter_restarts {early : Bool} {e : Int} {r : RefInput} (h : RunRestarts early e r) :
    countAfter early e r = 1 := by
  unfold countAfter
  rcases h with h | h | ⟨p, hp, h⟩
  · rw [h]
  · cases r.prevError with
    | none => rfl
    | some p => exact if_pos (.inl h)
  · rw [hp]; exact if_pos (.inr h)

theorem countAfter_goes_on {early : Bool} {e : Int} {r : RefInput} (h : ¬ RunRestarts early e r) :
    countAfter early e r = r.acqCount + 1 := by
  unfold countAfter
  cases hp : r.prevError with
  | none => exact absurd (.inl hp) h
  | some p => exact if_neg fun hc => h (hc.elim (fun he => .inr (.inl he)) fun hd => .inr (.inr ⟨p, hp, hd⟩))

/-- Settles O30: a pulse short of the fourth is counted, and an expired deadline breaks the run. -/
theorem acquisitionPulsesAreCounted : Obligations.AcquisitionPulsesAreCounted := by
  intro s hrun hs
  dsimp only
  refine ⟨fun hshort => ?_, fun due hd hr => ?_⟩
  · rw [execPulse_running hrun, takePulse_other hs]
    unfold acquisitionPulse
    by_cases hr : RunRestarts (isEarly s.reading s.ref.lastPulse) (pulseError s.reading) s.ref
    · rw [countAfter_restarts (r := (s.withRef (s.ref.met s.reading)).ref) hr, if_neg (by decide)]
      refine congrArg (fun n => Host.Outcome.next { s with ref := { s.ref with
        acqCount := n, prevError := some (pulseError s.reading), label := none, lastPulse := some s.reading
        deadline := some (plus s.reading 1200000000) } }) (if_pos (show _ from hr)).symm
    · have hlt : s.ref.acqCount < 3 := hshort.resolve_left hr
      rw [countAfter_goes_on (r := (s.withRef (s.ref.met s.reading)).ref) hr, if_neg]
      · exact congrArg (fun n => Host.Outcome.next { s with ref := { s.ref with
          acqCount := n, prevError := some (pulseError s.reading), label := none, lastPulse := some s.reading
          deadline := some (plus s.reading 1200000000) } }) (if_neg (show ¬ _ from hr)).symm
      · show ¬ 4 ≤ s.ref.acqCount + 1
        omega
  · rw [execAbsence_due hrun hd hr]
    unfold absence
    rw [if_neg hs]
    rfl

/-- The acquisition request with its flag (R42). -/
theorem acquire_spec (c : Int) (s : State) : let t := acquire c s
    t.clock.state = .referenced ∧ Applied c 1 s.clock t.clock ∧ flagIsSet .refAcquired t = true ∧
      (let r : RefInput := { s.ref with acqCount := 0, prevError := none, missCount := 0, mismatch := none }
       ∃ x, t.ref = r ∨ t.ref = r.onStep x) ∧ t.cfg = s.cfg ∧ t.corr = s.corr := by
  dsimp only
  unfold acquire
  generalize hr : ({ s.ref with acqCount := 0, prevError := none, missCount := 0, mismatch := none } : RefInput) = r
  have ht : Request.takenIn (.acquisition c) (s.withRef r).clock.state = true := rfl
  obtain ⟨hstate, happ⟩ := takeRequest_applied ht rfl (by simp [Request.result])
  have hl := takeRequest_leaves ht
  have hcfg := hl.cfg
  obtain ⟨hnone, hsome, hcorr, -, -⟩ := hl
  rw [setFlag_clock, setFlag_ref, setFlag_cfg, setFlag_corr, hcorr, hcfg]
  refine ⟨hstate, happ, (flagIsSet_setFlag _ _ _).mpr (.inr rfl), ?_, rfl, rfl⟩
  cases hm : Request.stepMade (s.withRef r).cfg.period (.acquisition c) (s.withRef r).clock with
  | none => exact ⟨0, .inl (hnone hm).2.1⟩
  | some x => exact ⟨x, .inr (hsome x hm).2.1⟩

/-- Settles O31: the fourth pulse of a run makes the acquisition request. -/
theorem fourthPulseAcquires : Obligations.FourthPulseAcquires := by
  intro s hrun hs
  dsimp only
  intro p hp hnear hearly hcount
  generalize hd : labelDifference (pairedSecond s.reading s.ref.label) (pulseSecond s.reading) = d
  have hgo : ¬ RunRestarts (isEarly s.reading s.ref.lastPulse) (pulseError s.reading) s.ref := by
    rintro (h | h | ⟨p', hp', h⟩)
    · rw [hp] at h; exact absurd h (by simp)
    · rw [hearly] at h; exact absurd h (by simp)
    · rw [hp] at hp'
      obtain rfl := Option.some.inj hp'
      omega
  have hpulse : exec .pulse s = .next (acquire (d * 1000000000 - pulseError s.reading)
      (s.withRef (s.ref.met s.reading))) := by
    rw [execPulse_running hrun, takePulse_other hs, hd]
    unfold acquisitionPulse
    rw [countAfter_goes_on (r := (s.withRef (s.ref.met s.reading)).ref) hgo, if_pos]
    · rfl
    · show 4 ≤ s.ref.acqCount + 1
      omega
  obtain ⟨h1, h2, h3, h4, h5, h6⟩ :=
    acquire_spec (d * 1000000000 - pulseError s.reading) (s.withRef (s.ref.met s.reading))
  refine ⟨_, hpulse, h1, h2, h3, ?_⟩
  obtain ⟨c, href | href⟩ := h4 <;> rw [href, h5, h6] <;> exact ⟨rfl, rfl, rfl, rfl, rfl, rfl, rfl⟩

end Sys2Proof.Machine
end

section
/-! Numbers in bytes, and the labels that the Reference Input assembles. -/

namespace Sys2Proof.Machine

variable {s t : State}

/-! ## Numbers in bytes (R194) -/

@[simp] theorem leBytes_length (n : Nat) (v : Int) : (leBytes n v).length = n := by
  induction n generalizing v with
  | zero => rfl
  | succ n ih => simp [leBytes, ih]

/-- The remainder by a product, digit by digit. -/
theorem emod_digit (v : Int) {a b : Int} (ha : 0 < a) (hb : 0 < b) : v % (a * b) = v % a + a * (v / a % b) := by
  have h1 := Int.emod_add_mul_ediv v a
  have h2 := Int.emod_add_mul_ediv (v / a) b
  have hra := Int.emod_nonneg v ha.ne'
  have hra' := Int.emod_lt_of_pos v ha
  have hrb := Int.emod_nonneg (v / a) hb.ne'
  have hrb' := Int.emod_lt_of_pos (v / a) hb
  refine ((Int.ediv_emod_unique (q := v / a / b) (Int.mul_pos ha hb)).mpr ⟨?_, ?_, ?_⟩).2
  · rw [add_assoc, mul_assoc, ← mul_add, h2, h1]
  · exact add_nonneg hra (mul_nonneg ha.le hrb)
  · nlinarith

/-- The bytes of a number give it back, modulo the range of the bytes. -/
theorem leNat_leBytes (n : Nat) (v : Int) : (leNat (leBytes n v) : Int) = v % (256 ^ n : Nat) := by
  induction n generalizing v with
  | zero => simp [leBytes, leNat]
  | succ n ih =>
    have hb : ((BitVec.ofInt 8 v).toNat : Int) = v % 256 := by
      rw [BitVec.toNat_ofInt]; omega
    simp only [leBytes, leNat]
    rw [pow_succ, mul_comm (256 ^ n) 256]
    push_cast at ih ⊢
    rw [ih, hb, emod_digit v (by decide) (by positivity)]

theorem leNat_leBytes_of_lt {n v : Nat} (h : v < 256 ^ n) : leNat (leBytes n v) = v := by
  have := leNat_leBytes n v
  rw [Int.emod_eq_of_lt (Int.natCast_nonneg v) (by exact_mod_cast h)] at this
  exact_mod_cast this

/-! ## The label message (R46, R47, R197) -/

/-- The input at the character that follows those held, while the message is short. -/
theorem character_joins {r : RefInput} {chars : List Byte} {last : NodeTime} (c : Byte) (n : Nat)
    (h : r.labelRx = .assembling chars last) (hlen : chars.length + 1 < 6) :
    r.character c n = { r with labelRx := .assembling (chars ++ [c]) n } := by
  unfold RefInput.character
  rw [h]
  exact if_pos (by simpa using hlen)

/-- The last character of a message. -/
theorem character_ends {r : RefInput} {chars : List Byte} {last : NodeTime} (c : Byte) (n : Nat)
    (h : r.labelRx = .assembling chars last) (hlen : chars.length = 5) : r.character c n =
      if (chars ++ [c]).foldl (· + ·) 0#8 = 0#8 then
        { r with labelRx := .waiting, label := some { count := natAt 1 4 (chars ++ [c]), arrival := n } }
      else { r with labelRx := .waiting } := by
  unfold RefInput.character
  rw [h]
  dsimp only
  rw [if_neg (by simp [hlen])]
  exact if_congr decide_eq_true_iff rfl rfl

theorem character_lead {r : RefInput} (n : Nat) (h : r.labelRx = .waiting) :
    r.character 0xA3#8 n = { r with labelRx := .assembling [0xA3#8] n } := by
  unfold RefInput.character
  rw [h]
  exact if_pos rfl

theorem character_ignored {r : RefInput} {c : Byte} (n : Nat) (h : r.labelRx = .waiting) (hc : c ≠ 0xA3#8) :
    r.character c n = r := by
  unfold RefInput.character
  rw [h]
  exact if_neg hc

/-- The six characters of a message, one after another. -/
theorem character_message {r : RefInput} {count : Nat} (sum : Byte) (t0 t1 t2 t3 t4 t5 : Nat) (h : r.labelRx = .waiting)
    (hcount : count < 4294967296) :
    let bs := leBytes 4 count
    (((((r.character 0xA3#8 t0).character (bs.getD 0 0) t1).character (bs.getD 1 0) t2).character (bs.getD 2 0)
      t3).character (bs.getD 3 0) t4).character sum t5 =
      if ([0xA3#8] ++ bs ++ [sum]).foldl (· + ·) 0#8 = 0#8 then { r with label := some { count := count, arrival := t5 } }
      else r := by
  have hnat := leNat_leBytes_of_lt (n := 4) (v := count) hcount
  have hrx : ({ r with labelRx := .waiting } : RefInput) = r := by rw [← h]
  dsimp only
  obtain ⟨b0, b1, b2, b3, hbs⟩ : ∃ b0 b1 b2 b3, leBytes 4 count = [b0, b1, b2, b3] := ⟨_, _, _, _, rfl⟩
  rw [hbs] at hnat ⊢
  have hat : natAt 1 4 [0xA3#8, b0, b1, b2, b3, sum] = count := hnat
  rw [character_lead t0 h, character_joins _ t1 rfl (by decide), character_joins _ t2 rfl (by simp),
    character_joins _ t3 rfl (by simp), character_joins _ t4 rfl (by simp), character_ends _ t5 rfl (by simp)]
  refine if_congr Iff.rfl ?_ hrx
  rw [← h]
  exact congrArg (fun n => { r with label := some { count := n, arrival := t5 } }) hat

/-- Settles O32: the label input by its characters, its gaps, the tick and the expiry. -/
theorem labelsAreAssembled : Obligations.LabelsAreAssembled := by
  refine ⟨fun r count sum t0 t1 t2 t3 t4 t5 h hc => character_message sum t0 t1 t2 t3 t4 t5 h hc,
    fun c s hrun => ⟨fun hb => ⟨?_, ?_⟩, fun hb stopLow => ?_, fun hw hc => character_ignored _ hw hc⟩,
    fun s chars last hrun hrx => ⟨fun hb hgap => ?_, fun hno => ?_⟩,
    fun pins s hrun => ⟨ticked pins s, rfl, fun hno => ?_, fun hlow hp hb => ?_⟩, fun s l hrun hl hlate => ?_⟩
  · show Host.Outcome.next (if s.running ∧ s.ref.charBegun then _ else _) = _
    rw [if_pos ⟨hrun, hb⟩]; rfl
  · show Host.Outcome.next (if s.running ∧ s.ref.charBegun then _ else _) = _
    rw [if_pos ⟨hrun, hb⟩]; rfl
  · show Host.Outcome.next (if s.running ∧ s.ref.charBegun then _ else _) = _
    rw [if_neg fun h => Bool.false_ne_true (hb.symm.trans h.2)]
  · have hdue : gapDue s = true := by simp [gapDue, gapPassed, hrun, hb, hrx, hgap]
    show Host.Outcome.next (if gapDue s then _ else _) = _
    rw [if_pos hdue]; rfl
  · have hdue : ¬ gapDue s = true := by
      simp only [gapDue, gapPassed, hrun, hrx, Bool.true_and, Bool.and_eq_true, Bool.not_eq_true', decide_eq_true_eq,
        not_and]
      intro hb hgap
      rcases hno with hno | hno
      · rw [hb] at hno; exact absurd hno Bool.false_ne_true
      · omega
    show Host.Outcome.next (if gapDue s then _ else _) = _
    rw [if_neg hdue]
  · rw [ticked_running pins hrun]
    show s.ref.labelTick pins.labelLow s.reading = _
    unfold RefInput.labelTick
    rw [if_neg]
    simpa [and_assoc] using hno
  · rw [ticked_running pins hrun]
    show s.ref.labelTick pins.labelLow s.reading = _
    unfold RefInput.labelTick gapPassed
    rw [if_pos (by simp [hlow, hp, hb]), hlow]
    cases s.ref.labelRx with
    | waiting => rfl
    | assembling chars last => simp
  · have hdue : expiryDue s = true := by
      unfold expiryDue
      rw [hrun, Bool.true_and, hl, Option.any_some, hlate]
    show Host.Outcome.next (if expiryDue s then _ else _) = _
    rw [if_pos hdue]; rfl

end Sys2Proof.Machine
end

section
/-! The Line Unit's receptions, its counts, and its duplicates. -/

namespace Sys2Proof.Machine

variable {s t : State}

/-! ## The line's counts (R57, R66, R67) -/

theorem jamEnd_due (hrun : s.running = true) (h : s.line.jam = some 0) :
    exec .jamEnd s = .next (s.withLine { s.line with jam := none }) := by
  show Host.Outcome.next (if s.running = true ∧ s.line.jam = some 0 then _ else s) = _
  rw [if_pos ⟨hrun, h⟩]

theorem backoffEnd_due (hrun : s.running = true) (hready : s.line.ready = true) (h : s.line.backoff = some 0) :
    exec .backoffEnd s = .next (s.withLine { s.line with backoff := none }) := by
  show Host.Outcome.next (if s.running = true ∧ s.line.ready = true ∧ s.line.backoff = some 0 then _ else s) = _
  rw [if_pos ⟨hrun, hready, h⟩]

theorem stuckDue_iff : stuckDue s = true ↔
    s.running = true ∧ s.line.state ≠ .stuck ∧ Config.stuckLimit ≤ s.line.stuckTimer := by
  simp [stuckDue, and_assoc]

theorem releaseDue_iff : releaseDue s = true ↔
    s.running = true ∧ s.line.state = .stuck ∧ Config.stuckRelease ≤ s.line.idleRun := by
  simp [releaseDue, and_assoc]

theorem released_of_ret {l : LineUnit} {state : LineState} {n : Nat} (h : l.ret = some (state, n)) :
    l.released = { l with state := state, roundCount := n, ret := none, stuckTimer := 0 } := by
  unfold LineUnit.released
  rw [h]

/-- Settles O39: each count's end as its command takes it. -/
theorem lineCountsEnd : Obligations.LineCountsEnd := by
  intro s hrun
  refine ⟨jamEnd_due hrun, backoffEnd_due hrun, fun hstate htimer => ?_, fun state n hstate hret hidle => ?_⟩
  · show Host.Outcome.next (if stuckDue s = true then _ else s) = _
    rw [if_pos (stuckDue_iff.mpr ⟨hrun, hstate, htimer⟩)]
    rfl
  · show Host.Outcome.next (if releaseDue s = true then _ else s) = _
    rw [if_pos (releaseDue_iff.mpr ⟨hrun, hstate, hidle⟩), released_of_ret hret]
    rfl

/-! ## Receptions (R60, R61) -/

theorem readyDue_iff : readyDue s = true ↔ s.running = true ∧ s.line.ready = false ∧ s.line.reception = none ∧
    Config.startGap ≤ s.line.idleRun ∧ s.line.readyFrom ≤ s.tick := by
  simp [readyDue, and_assoc]

theorem leading_iff (l : LineUnit) : l.leading = true ↔ ∃ a, l.attempt = some a ∧ a.lead = none := by
  simp [LineUnit.leading, Option.any_eq_true]

theorem wrongLead_of_ne {chars cs : List Byte} {c : Byte} (h : chars = c :: cs) (hc : c ≠ 0xC5#8) :
    wrongLead chars = true := by
  subst h
  exact decide_eq_true hc

theorem frameComplete_eq_false {chars : List Byte}
    (h : chars.length < 4 ∨ chars.length < natAt 3 1 chars + 6) : frameComplete chars = false := by
  unfold frameComplete lengthOf
  rw [← Bool.decide_and]
  exact decide_eq_false (by omega)

/-- The reasons of R61, in the words of the statement. -/
theorem truncated_of {idleRun : Nat} {r : Reception}
    (h : r.framing = true ∨ (∃ c cs, r.chars = c :: cs ∧ c ≠ 0xC5#8) ∨
      (4 ≤ r.chars.length ∧ 200 < natAt 3 1 r.chars) ∨
      (400 < idleRun ∧ (r.chars.length < 4 ∨ r.chars.length < natAt 3 1 r.chars + 6))) :
    r.truncated idleRun = true := by
  unfold Reception.truncated
  obtain hframing | ⟨c, cs, hchars, hc⟩ | ⟨hlen, hover⟩ | ⟨hidle, hshort⟩ := h
  · simp [hframing]
  · simp [wrongLead_of_ne hchars hc]
  · simp [overlong, lengthOf, hlen, hover]
  · have : Config.truncationGap < idleRun := hidle
    simp [frameComplete_eq_false hshort, this]

/-- Settles O33: READY, the lead edge, the truncations and the failed check, each as its command takes it. -/
theorem receptionsBeginAndEnd : Obligations.ReceptionsBeginAndEnd := by
  refine ⟨fun s hrun hready hrx => ⟨fun hidle hfrom => ?due, fun h => ?notDue⟩,
    fun s hrun hready => ⟨s.line.leading, leading_iff s.line, ?leadEdge⟩, fun r s hrun hrx hown hreason => ?truncated,
    fun r s hrun hrx hown hwhole hcheck => ?check⟩
  case due =>
    show Host.Outcome.next (if readyDue s = true then _ else s) = _
    rw [if_pos (readyDue_iff.mpr ⟨hrun, hready, hrx, hidle, hfrom⟩)]
    rfl
  case notDue =>
    show Host.Outcome.next (if readyDue s = true then _ else s) = _
    rw [if_neg]
    intro hdue
    obtain ⟨-, -, -, hidle, hfrom⟩ := readyDue_iff.mp hdue
    have hidle : 600 ≤ s.line.idleRun := hidle
    omega
  case leadEdge =>
    show Host.Outcome.next (if s.running = true ∧ s.line.ready = true then leadEdge s else s) = _
    rw [if_pos ⟨hrun, hready⟩]
    rfl
  case truncated =>
    have hdue : truncationDue s = true := by
      simp [truncationDue, hrun, hrx, hown, truncated_of hreason]
    show Host.Outcome.next (if truncationDue s = true then truncate s else s) = _
    rw [if_pos hdue]
    rfl
  case check =>
    have hfails : checkPasses r.chars = false := decide_eq_false hcheck
    have hdue : checkFailDue s = true := by
      simp [checkFailDue, hrun, hrx, hown, hwhole, hfails]
    show Host.Outcome.next (if checkFailDue s = true then endReception s else s) = _
    rw [if_pos hdue]
    rfl

/-! ## Duplicates and frames delivered to no block (R55, R62) -/

/-- The Line Unit at a duplicate, its fields as the statement of O34 gives them. -/
theorem muted_eq (l : LineUnit) : l.muted = { l with
    state := if l.state = .stuck then .stuck else .muted
    roundCount := if l.state = .stuck then l.roundCount else 0
    ret := if l.state = .stuck then some (.muted, 0) else l.ret } := by
  unfold LineUnit.muted
  by_cases h : l.state = .stuck
  · simp only [h, if_true]
  · simp only [if_neg h]

theorem duplicate_ended (s : State) : duplicate (ended s) = setFlag .duplicate { s with
    line := { s.line with
      reception := none, ready := false
      state := if s.line.state = .stuck then .stuck else .muted
      roundCount := if s.line.state = .stuck then s.line.roundCount else 0
      ret := if s.line.state = .stuck then some (.muted, 0) else s.line.ret } } := by
  unfold duplicate
  rw [muted_eq]
  rfl

/-- The frames of the eight kinds are each committed by the kind's command. -/
theorem exec_of_receivedKinds {c : Instr} {kind : Byte} (h : (c, kind) ∈ receivedKinds) :
    ∃ d : Frame → Reception → State → State,
      (∀ s, exec c s = .next (commitFrame (isKind kind) d s)) ∧ (c = .stateReceived → d = fun _ _ s => s) := by
  simp only [receivedKinds, List.mem_cons, Prod.mk.injEq, List.not_mem_nil, or_false] at h
  obtain ⟨rfl, rfl⟩ | ⟨rfl, rfl⟩ | ⟨rfl, rfl⟩ | ⟨rfl, rfl⟩ | ⟨rfl, rfl⟩ | ⟨rfl, rfl⟩ | ⟨rfl, rfl⟩ | ⟨rfl, rfl⟩ := h
  case inr.inr.inl => exact ⟨fun _ _ s => s, fun s => rfl, fun _ => rfl⟩
  all_goals exact ⟨_, fun s => rfl, nofun⟩

/-- Settles O34: a good frame of the own station is a duplicate before its kind is looked at. -/
theorem duplicatesMuteTheNode : Obligations.DuplicatesMuteTheNode := by
  rintro c r s h (hc | ⟨rfl, hkind⟩)
  · obtain ⟨d, hexec, hstate⟩ := exec_of_receivedKinds hc
    rw [hexec, commitFrame_heard h (isKind_of_eq rfl)]
    refine ⟨fun hs => by rw [if_pos hs, duplicate_ended], fun hs hcmd => ?_⟩
    obtain rfl | rfl := hcmd
    · rw [if_neg hs, hstate rfl]
    · simp [receivedKinds] at hc
  · have hunknown : (!knownKind (kindOf r)) = true := by
      generalize kindOf r = k at hkind
      revert k
      decide
    have hexec : exec .unknownKindReceived s = .next (commitFrame (fun k => !knownKind k) (fun _ _ s => s) s) := rfl
    rw [hexec, commitFrame_heard h hunknown]
    exact ⟨fun hs => by rw [if_pos hs, duplicate_ended], fun hs _ => by rw [if_neg hs]⟩

end Sys2Proof.Machine
end

section
/-! The start of an attempt. -/

namespace Sys2Proof.Machine

variable {s t : State}

/-- The quotient toward zero is Lean's. -/
theorem towardZero_eq_tdiv (num : Int) (den : Nat) : towardZero num den = Int.tdiv num den := by
  unfold towardZero
  by_cases h : 0 ≤ num
  · rw [if_pos h]
    obtain ⟨n, rfl⟩ := Int.eq_ofNat_of_zero_le h
    exact Int.ofNat_tdiv n den
  · rw [if_neg h]
    obtain ⟨n, hn⟩ := Int.eq_ofNat_of_zero_le (Int.neg_nonneg.mpr (Int.le_of_not_le h))
    obtain rfl : num = -n := by omega
    rw [Int.natAbs_neg, Int.natAbs_natCast, Int.neg_tdiv, ← Int.ofNat_tdiv]

theorem code_lines (c : Timebase) (l : LineState) (r : ResetCause) : c.code + 4 * l.code + 16 * r.code =
    (match c with | .free => 0 | .referenced => 1 | .agreed => 2 | .holdover => 3) +
      (match l with | .silent => 0 | .active => 4 | .muted => 8 | .stuck => 12) +
      (match r with | .powerOn => 0 | .external => 16) :=
  congrArg₂ (· + ·) (congrArg₂ (· + ·) (by cases c <;> rfl) (by cases l <;> rfl)) (by cases r <;> rfl)

/-! ## The arbiter's choice (R64) -/

theorem execAttemptStart_allowed (hrun : s.running = true) (hstate : s.line.state = .active)
    (hready : s.line.ready = true) (hback : s.line.backoff = none) (hatt : s.line.attempt = none) :
    exec .attemptStart s = .next (startAttempt s) := by
  have hallows : allowsStart s = true := by simp [allowsStart, hrun, hstate, hready, hback, hatt]
  show Host.Outcome.next (if allowsStart s then startAttempt s else s) = _
  rw [if_pos hallows]

theorem ofNat_weight (b : Bool) : BitVec.ofNat 8 (weight 0 b) = if b then 1#8 else 0#8 := by
  cases b <;> rfl

theorem askForced_eq (cls : WinClass) (o : OwnWindow) :
    askForced cls o = (o.urgent || decide (cls = .compStep ∧ 3 ≤ o.attempts)) := by
  rw [askForced, Bool.decide_and]

theorem startAttempt_window {q : Queued} {qs : List Queued} (h : s.line.queue = q :: qs) : startAttempt s =
    withAttempt (windowAttempt q.frame s)
      (s.withLine { s.line with queue := { q with inAttempt := true } :: qs }) := by
  unfold startAttempt
  rw [h]
  rfl

theorem startAttempt_mark (hq : s.line.queue = []) (hm : s.line.markSlot.full = true) :
    startAttempt s = withAttempt (Attempt.begun .mark markKind 9 []) s := by
  unfold startAttempt
  rw [hq]
  exact if_pos hm

theorem startAttempt_state (hq : s.line.queue = []) (hm : s.line.markSlot.full = false)
    (hst : s.line.stateSlot.full = true) : startAttempt s =
      withAttempt (Attempt.begun .state stateKind (statePayload s).length (statePayload s)) s := by
  unfold startAttempt
  rw [hq]
  dsimp only
  rw [if_neg (by simp [hm]), if_pos hst]

theorem startAttempt_bank (hq : s.line.queue = []) (hm : s.line.markSlot.full = false)
    (hst : s.line.stateSlot.full = false) {i : Bool} (hb : s.ring.pendingBank = some i) : startAttempt s =
      withAttempt (blockAttempt (.bank i) (blockPayload 0#8 (s.ring.bank i).records))
        (s.withRing (s.ring.setBank i { s.ring.bank i with state := .sending })) := by
  unfold startAttempt
  rw [hq]
  dsimp only
  rw [if_neg (by simp [hm]), if_neg (by simp [hst]), hb]

theorem startAttempt_reply (hq : s.line.queue = []) (hm : s.line.markSlot.full = false)
    (hst : s.line.stateSlot.full = false) (hb : s.ring.pendingBank = none) {r : Reply} (hr : s.ring.reply = some r) :
    startAttempt s = withAttempt
      (blockAttempt (.reply false) (blockPayload (blockMarkers true r.final r.notHeld r.gap) r.records)) s := by
  unfold startAttempt
  rw [hq]
  dsimp only
  rw [if_neg (by simp [hm]), if_neg (by simp [hst]), hb, hr]

theorem startAttempt_none (hq : s.line.queue = []) (hm : s.line.markSlot.full = false)
    (hst : s.line.stateSlot.full = false) (hb : s.ring.pendingBank = none) (hr : s.ring.reply = none) :
    startAttempt s = s := by
  unfold startAttempt
  rw [hq]
  dsimp only
  rw [if_neg (by simp [hm]), if_neg (by simp [hst]), hb, hr]

/-- Settles O36: the payload item by item, and the arbiter's branches in their order. -/
theorem attemptStartsInOrder : Obligations.AttemptStartsInOrder := by
  refine ⟨fun s => ?payload, fun s hrun hstate hready hback hatt => ?start⟩
  case payload =>
    unfold statePayload
    refine congrArg₂ (· ++ ·) ?_ (congrArg (List.flatMap · _) (funext fun r => ?row))
    case row =>
      unfold Row.entry
      cases r.state <;> cases r.peer <;> rfl
    congr 9
    · rw [code_lines] <;> rfl
    · rw [towardZero_eq_tdiv] <;> rfl
    · cases s.agr.summary.tier <;> rfl
  case start =>
    rw [execAttemptStart_allowed hrun hstate hready hback hatt]
    refine ⟨fun q qs hq => ?window, fun hq => ⟨fun hm => ?mark, fun hm => ⟨fun hst => ?state,
      fun hst => ⟨fun h0 => ?bank0, fun h0 h1 => ?bank1, fun h0 h1 => ?noBank⟩⟩⟩⟩
    case window =>
      rw [startAttempt_window hq]
      cases q.frame with
      | ask id cls duration affect =>
        unfold windowAttempt
        dsimp only
        rw [ofNat_weight, askForced_eq]
        rfl
      | defer w lead conflictEnd guarded marked => rfl
      | withdraw id start => rfl
    case mark => rw [startAttempt_mark hq hm] <;> rfl
    case state => rw [startAttempt_state hq hm hst] <;> rfl
    case bank0 => rw [startAttempt_bank hq hm hst (i := false) (if_pos h0)] <;> rfl
    case bank1 => rw [startAttempt_bank hq hm hst (i := true) ((if_neg h0).trans (if_pos h1))] <;> rfl
    case noBank =>
      have hb : s.ring.pendingBank = none := (if_neg h0).trans (if_neg h1)
      refine ⟨fun sc reply hsc hreply => ?_, fun h => ?_⟩
      · have hr : s.ring.reply = some reply := by simp [RecordRing.reply, hsc, hreply]
        rw [startAttempt_reply hq hm hst hb hr] <;> rfl
      · have hr : s.ring.reply = none := by
          obtain hsc | ⟨sc, hsc, hreply⟩ := h
          · simp [RecordRing.reply, hsc]
          · simp [RecordRing.reply, hsc, hreply]
        rw [startAttempt_none hq hm hst hb hr]

end Sys2Proof.Machine
end

section
/-! What the owners of frames make of a report, and the sent frame. -/

namespace Sys2Proof.Machine

variable {s t : State}

/-! ## Reports on a bank's frame (R156, R158) -/

/-- A full bank waits beside the reported one. -/
def BankWaits (i : Bool) (s : State) : Prop :=
  (s.ring.bank (!i)).state = .filling ∧ s.cfg.bankLength ≤ (s.ring.bank (!i)).records.length

@[simp] theorem RecordRing.bank_setBank_same (g : RecordRing) (i : Bool) (b : Bank) : (g.setBank i b).bank i = b := by
  cases i <;> rfl

@[simp] theorem RecordRing.bank_setBank_not (g : RecordRing) (i : Bool) (b : Bank) :
    (g.setBank i b).bank (!i) = g.bank (!i) := by
  cases i <;> rfl

theorem bankReport_waits (i : Bool) (rep : Report) (h : BankWaits i s) : bankReport i rep s =
    closeBank (!i) (s.withRing (s.ring.setBank i ((s.ring.bank i).reported rep))) := by
  rw [bankReport_eq]
  dsimp only
  rw [if_pos]
  simpa [Bank.filling, BankWaits] using h

theorem bankReport_alone (i : Bool) (rep : Report) (h : ¬ BankWaits i s) : bankReport i rep s =
    s.withRing (s.ring.setBank i ((s.ring.bank i).reported rep)) := by
  rw [bankReport_eq]
  dsimp only
  rw [if_neg]
  simpa [Bank.filling, BankWaits] using h

/-- The ring once the waiting bank has closed beside the reported one. -/
def RecordRing.closedBeside (g : RecordRing) (i : Bool) : RecordRing :=
  (g.setBank (!i) { g.bank (!i) with state := .pending }).setBank i { state := .filling, records := [] }

theorem closeBank_beside (i : Bool) (b : Bank) (h : b.state = .free ∨ b.state = .pending) :
    closeBank (!i) (s.withRing (s.ring.setBank i b)) = setFlagIf (decide (b.state = .pending)) .bankDrop
      ((s.withRing (s.ring.closedBeside i)).withLine { s.line with bankFailures := 0 }) := by
  have hi : (!(!i)) = i := Bool.not_not i
  rw [closeBank_eq, hi, State.withRing_ring, RecordRing.bank_setBank_same, if_pos h]
  cases i <;> rfl

theorem reported_left {rep : Report} (h : rep ≠ .failed) (b : Bank) : b.reported rep = Bank.empty := if_neg h

/-- A bank that leaves makes room for a full bank beside it (R158). -/
theorem bankReport_left {i : Bool} {rep : Report} (hrep : rep ≠ .failed) (h : BankWaits i s) : bankReport i rep s =
    (s.withRing (s.ring.closedBeside i)).withLine { s.line with bankFailures := 0 } := by
  rw [bankReport_waits i rep h, reported_left hrep, closeBank_beside i _ (Or.inl rfl)]
  rfl

theorem bankReport_left_alone {i : Bool} {rep : Report} (hrep : rep ≠ .failed) (h : ¬ BankWaits i s) :
    bankReport i rep s = s.withRing (s.ring.setBank i Bank.empty) := by
  rw [bankReport_alone i rep h, reported_left hrep]

/-- Both at once, where the bank's failures are 0 already. -/
theorem bankReport_leaves {i : Bool} {rep : Report} (hrep : rep ≠ .failed) (hz : s.line.bankFailures = 0) :
    bankReport i rep s = s.withRing
      (if (s.ring.bank (!i)).state = .filling ∧ s.cfg.bankLength ≤ (s.ring.bank (!i)).records.length
        then s.ring.closedBeside i else s.ring.setBank i Bank.empty) := by
  have hline : { s.line with bankFailures := 0 } = s.line := by rw [← hz]
  by_cases hw : BankWaits i s
  · rw [bankReport_left hrep hw, hline]
    exact congrArg s.withRing (if_pos hw).symm
  · rw [bankReport_left_alone hrep hw]
    exact congrArg s.withRing (if_neg hw).symm

/-- A bank pending again gives way to a full bank beside it (R156, R158). -/
theorem bankReport_failed {i : Bool} (h : BankWaits i s) : bankReport i .failed s = setFlag .bankDrop
    ((s.withRing (s.ring.closedBeside i)).withLine { s.line with bankFailures := 0 }) := by
  rw [bankReport_waits i .failed h, closeBank_beside i _ (Or.inr rfl)]
  rfl

theorem bankReport_failed_alone {i : Bool} (h : ¬ BankWaits i s) : bankReport i .failed s =
    s.withRing (s.ring.setBank i { s.ring.bank i with state := .pending }) :=
  bankReport_alone i .failed h

/-! ## Reports on a reply (R159, R163) -/

theorem assembleReply_of_none {sc : Scan} (h : s.ring.scan = some sc) (hr : sc.reply = none) : assembleReply s =
    (s.withRing { s.ring with scan := some (sc.assembled s.ring) }).withLine { s.line with replyFailures := 0 } := by
  unfold assembleReply
  rw [h]
  exact if_pos hr

theorem assembleReply_of_some {sc : Scan} (h : s.ring.scan = some sc) (hr : sc.reply ≠ none) :
    assembleReply s = s := by
  unfold assembleReply
  rw [h]
  exact if_neg hr

theorem assembleReply_of_noScan (h : s.ring.scan = none) : assembleReply s = s := by
  unfold assembleReply
  rw [h]

theorem recallReport_sent {sc : Scan} {r : Reply} (h : s.ring.scan = some sc) (hr : sc.reply = some r) :
    recallReport .sent s = if r.final then s.withRing { s.ring with scan := none }
      else (s.withRing { s.ring with scan := some ({ sc with reply := none }.assembled s.ring) }).withLine
        { s.line with replyFailures := 0 } := by
  unfold recallReport
  rw [h]
  dsimp only
  rw [hr]
  dsimp only
  by_cases hf : r.final
  · rw [if_pos hf, if_pos hf]
  · rw [if_neg hf, if_neg hf, assembleReply_of_none rfl rfl]
    rfl

theorem recallReport_failed (s : State) : recallReport .failed s = s := by
  unfold recallReport
  cases s.ring.scan with
  | none => rfl
  | some sc =>
    dsimp only
    cases sc.reply <;> rfl

theorem recallReport_dropped {sc : Scan} {r : Reply} (h : s.ring.scan = some sc) (hr : sc.reply = some r)
    (hn : s.line.replyFailures = 0) : recallReport .dropped s = s.withRing { s.ring with
      scan :=
        if r.final = false then some ({ sc with gap := true, reply := none }.assembled s.ring)
        else if sc.endRetried then none
        else some { sc with
          endRetried := true, reply := some { final := true, notHeld := false, gap := true, records := [] } } } := by
  have hline : { s.line with replyFailures := 0 } = s.line := by rw [← hn]
  unfold recallReport
  rw [h]
  dsimp only
  rw [hr]
  dsimp only
  by_cases hf : r.final = true
  · rw [if_pos hf, if_neg (show ¬ r.final = false by simp [hf])]
    by_cases he : sc.endRetried = true
    · rw [if_pos he, if_pos he]
    · rw [if_neg he, if_neg he, hline]
      rfl
  · rw [if_neg hf, if_pos (Bool.eq_false_iff.mpr hf), assembleReply_of_none rfl rfl, State.withRing_line, hline]
    rfl

/-! ## Reports on a window frame (R84, R97) -/

/-- A DEFER that is lost: its window is entered as a forced one would be (R97). -/
theorem deferLost_eq (w : Entry) (lead : Nat) (e : NodeTime) (g marked : Bool) (s : State) :
    deferLost (.defer w lead e g marked) s = if marked then s
      else if later w.finish s.reading = true ∧ ∀ x ∈ s.win.list, x.id ≠ w.id then enterWindow w (markOverlapped w s)
      else markOverlapped w s := by
  have hdue : (later w.finish s.reading && !carries w.id s.win.list) = true ↔
      later w.finish s.reading = true ∧ ∀ x ∈ s.win.list, x.id ≠ w.id := by
    simp [carries]
  unfold deferLost
  dsimp only
  rw [if_congr hdue rfl rfl]

theorem askSent_compStep {forced : Bool} {delay : Nat} {lead : NodeTime}
    (hlead : s.win.leadCap = some lead) (hc : s.win.own.cause.cls = .compStep) : askSent forced delay s =
    enterWindow
      { id := ownId s, cls := .compStep, start := plus lead (delay * Config.milli : Nat)
        finish := plus (plus lead (delay * Config.milli : Nat)) (s.cfg.settle * Config.milli : Nat), forced := forced }
      (s.withWin { s.win with own := { s.win.own with
        state := .waiting, forced := forced, urgent := false
        responseEnd := some (plus lead (Config.responseNs : Nat)), start := some (plus lead (delay * Config.milli : Nat))
        finish := some (plus (plus lead (delay * Config.milli : Nat)) (s.cfg.settle * Config.milli : Nat))
        waitEnd := none } }) := by
  unfold askSent
  rw [hlead]
  dsimp only
  rw [hc]
  exact if_pos rfl

theorem askSent_polarize {forced : Bool} {delay : Nat} {lead : NodeTime}
    (hlead : s.win.leadCap = some lead) (hc : s.win.own.cause.cls = .polarize) : askSent forced delay s =
      s.withWin { s.win with own := { s.win.own with
        state := .waiting, forced := forced, urgent := false
        responseEnd := some (plus lead (Config.responseNs : Nat)), start := some (plus lead (delay * Config.milli : Nat))
        finish := some (plus (plus lead (delay * Config.milli : Nat)) (s.cfg.polarize * Config.milli : Nat))
        waitEnd := none } } := by
  unfold askSent
  rw [hlead]
  dsimp only
  rw [hc]
  exact if_neg nofun

/-! ## The sent frame (R65) -/

theorem sentChars_length {station kind : _} {role : Role} {length : Nat} {payload : List Byte}
    (h : payload.length = length) : (sentChars station role kind length payload).length = length + 6 := by
  simp [sentChars, h]

theorem onLine_own {a : Attempt} {r : Reception} {l : LineUnit} (ha : l.attempt = some a) (hr : l.reception = some r)
    (hown : r.own = true) : l.onLine = some (a, r) := by
  unfold LineUnit.onLine
  rw [ha, hr]
  exact if_pos hown

theorem frameSent_whole {a : Attempt} {r : Reception} (hrun : s.running = true) (ha : s.line.attempt = some a)
    (hr : s.line.reception = some r) (hown : r.own = true) (hframing : r.framing = false)
    (hlen : a.payload.length = a.length)
    (hchars : r.chars = sentChars s.cfg.station s.cfg.role a.kind a.length a.payload) :
    exec .frameSent s = .next (reportSent a (s.withLine s.line.attemptOver)) := by
  have hmatch : mismatch (a.chars s.cfg) r = false := by
    simp [mismatch, hframing, hchars, Attempt.chars]
  have hwhole : r.chars.length = a.length + 6 := by rw [hchars, sentChars_length hlen]
  have hdue : sentDue s = some a := by
    unfold sentDue
    rw [onLine_own ha hr hown]
    exact if_pos ⟨hrun, hmatch, hwhole⟩
  show Host.Outcome.next (match sentDue s with | none => s | some a => reportSent a (s.withLine s.line.attemptOver)) = _
  rw [hdue]

theorem reportSent_window {a : Attempt} {q : Queued} {qs : List Queued} (ha : a.item = .window)
    (hq : s.line.queue = q :: qs) (hin : q.inAttempt = true) :
    reportSent a s = windowSent q.frame a.forced a.delay (s.withLine { s.line with queue := qs }) := by
  unfold reportSent
  rw [ha]
  dsimp only
  rw [hq, List.find?_cons_of_pos hin]
  dsimp only
  rw [List.eraseP_cons_of_pos hin]

/-- Settles O37: the report of each item on the state whose attempt is over. -/
theorem sentFrameLeaves : Obligations.SentFrameLeaves := by
  intro a r s hrun ha hr hown hframing hlen hchars
  rw [frameSent_whole hrun ha hr hown hframing hlen hchars]
  refine ⟨fun hi => ?mark, fun hi => ?state, fun second hi => ?bank, fun hi => ?orphan, fun sc reply hi hsc hreply => ?reply,
    fun q qs hi hq hin => ?window⟩
  case mark => unfold reportSent; rw [hi]; rfl
  case state => unfold reportSent; rw [hi]; rfl
  case bank =>
    unfold reportSent
    rw [hi]
    dsimp only
    rw [bankReport_leaves (rep := .sent) nofun rfl]
    cases second <;> rfl
  case orphan =>
    have horphan : reportSent a (s.withLine s.line.attemptOver) = assembleReply (s.withLine s.line.attemptOver) := by
      unfold reportSent
      rw [hi]
    rw [horphan]
    refine ⟨fun sc hsc hreply => congrArg Host.Outcome.next (assembleReply_of_none hsc hreply), fun h => ?_⟩
    obtain hsc | ⟨sc, hsc, hreply⟩ := h
    · exact congrArg Host.Outcome.next (assembleReply_of_noScan hsc)
    · exact congrArg Host.Outcome.next (assembleReply_of_some hsc hreply)
  case reply =>
    unfold reportSent
    rw [hi]
    dsimp only
    generalize hu : (s.withLine s.line.attemptOver).withLine _ = u
    have hscan : u.ring.scan = some sc := by rw [← hu]; exact hsc
    rw [recallReport_sent hscan hreply]
    subst hu
    by_cases hf : reply.final = true
    · rw [if_pos hf, if_pos hf]; rfl
    · rw [if_neg hf, if_neg hf]; rfl
  case window =>
    rw [reportSent_window (s := s.withLine s.line.attemptOver) hi hq hin]
    cases q.frame with
    | defer w lead e g marked => rfl
    | withdraw id start => rfl
    | ask id cls duration affect =>
      intro lead hlead
      cases hc : s.win.own.cause with
      | compStep set => exact congrArg Host.Outcome.next (askSent_compStep hlead (congrArg Cause.cls hc))
      | polarize t => exact congrArg Host.Outcome.next (askSent_polarize hlead (congrArg Cause.cls hc))
      | void => exact congrArg Host.Outcome.next (askSent_polarize hlead (congrArg Cause.cls hc))

end Sys2Proof.Machine
end

section
/-! Collisions and back-off. -/

namespace Sys2Proof.Machine

variable {s t : State}

/-! ## The draw of a back-off (R67, R68) -/

theorem advanceGenerator_eq (g : Nat) : advanceGenerator g =
    g / 2 + if (g + g / 4 + g / 8 + g / 32) % 2 = 1 then 32768 else 0 := by
  have hparity : (bitsOf 0 1 g + bitsOf 2 1 g + bitsOf 3 1 g + bitsOf 5 1 g) % 2 = 1 ↔
      (g + g / 4 + g / 8 + g / 32) % 2 = 1 := by
    simp only [bitsOf]
    omega
  unfold advanceGenerator
  rw [if_congr hparity rfl rfl]

/-- The Line Unit once an attempt has collided for the n-th time: the jam begun and the back-off drawn. -/
def LineUnit.backedOff (n nanoseconds : Nat) (l : LineUnit) : LineUnit :=
  let g := l.generator / 2 + if (l.generator + l.generator / 4 + l.generator / 8 + l.generator / 32) % 2 = 1 then 32768 else 0
  { l with
    attempt := none, reception := none, ready := false, jam := some 400, generator := g
    backoff := if (g + nanoseconds) % 2 ^ min n 5 = 0 then none else some ((g + nanoseconds) % 2 ^ min n 5 * 2000) }

theorem drawBackoff_jamBegun (l : LineUnit) (n nanoseconds : Nat) :
    l.jamBegun.drawBackoff n nanoseconds = l.backedOff n nanoseconds := by
  have hg : l.jamBegun.generator = l.generator := rfl
  unfold LineUnit.drawBackoff drawSlots LineUnit.backedOff
  rw [hg, advanceGenerator_eq]
  rfl

/-! ## The collision (R65, R66, R69) -/

theorem collision_eq {a : Attempt} {r : Reception} (hrun : s.running = true) (ha : s.line.attempt = some a)
    (hr : s.line.reception = some r) (hown : r.own = true)
    (hm : r.framing = true ∨
      r.chars ≠ (sentChars s.cfg.station s.cfg.role a.kind a.length a.payload).take r.chars.length) :
    exec .collision s = .next (collide a s) := by
  have hmatch : mismatch (a.chars s.cfg) r = true := by
    unfold mismatch
    rw [Bool.or_eq_true, decide_eq_true_iff]
    exact hm
  have hdue : collisionDue s = some a := by
    unfold collisionDue
    rw [onLine_own ha hr hown]
    exact if_pos ⟨hrun, hmatch⟩
  show Host.Outcome.next (match collisionDue s with | none => s | some a => collide a s) = _
  rw [hdue]

theorem collide_below {a : Attempt} {n : Nat} (hf : failuresOf a s.line = n) (hn : n < 7) :
    collide a s = reportFailed a (n + 1) (s.withLine (s.line.backedOff (n + 1) s.clock.nanoseconds)) := by
  unfold collide
  rw [hf]
  dsimp only
  rw [if_neg (show ¬ 8 ≤ n + 1 by omega), State.withLine_line, drawBackoff_jamBegun]
  rfl

theorem collide_eighth {a : Attempt} {n : Nat} (hf : failuresOf a s.line = n) (hn : 7 ≤ n) :
    collide a s = setFlag .frameDropped (reportDropped a (s.withLine s.line.jamBegun)) := by
  unfold collide
  rw [hf]
  exact if_pos (show 8 ≤ n + 1 by omega)

/-! ## A collision of a window frame (R72, R73, R87, R97) -/

/-- The frame's failures, with the frame in its attempt at the front of the queue. -/
theorem failuresOf_window {a : Attempt} {q : Queued} {qs : List Queued} (ha : a.item = .window)
    (hq : s.line.queue = q :: qs) (hin : q.inAttempt = true) : failuresOf a s.line = q.failures := by
  unfold failuresOf
  rw [ha]
  dsimp only
  rw [hq, List.find?_cons_of_pos hin]
  rfl

theorem map_failed_of_idle (n : Nat) {qs : List Queued} (h : ∀ x ∈ qs, x.inAttempt = false) :
    qs.map (Queued.failed n) = qs :=
  (List.map_congr_left fun x hx => if_neg (by rw [h x hx]; exact Bool.false_ne_true)).trans (List.map_id' qs)

theorem reportFailed_window {a : Attempt} {q : Queued} {qs : List Queued} {n : Nat} (ha : a.item = .window)
    (hq : s.line.queue = q :: qs) (hin : q.inAttempt = true) (hqs : ∀ x ∈ qs, x.inAttempt = false) :
    reportFailed a n s =
      if removedByCollision s q.frame then deferLost q.frame (s.withLine { s.line with queue := qs })
      else s.withLine { s.line with queue := { q with failures := n, inAttempt := false } :: qs } := by
  unfold reportFailed
  rw [ha]
  dsimp only
  rw [hq, List.find?_cons_of_pos hin]
  dsimp only
  rw [List.eraseP_cons_of_pos hin, List.map_cons, map_failed_of_idle n hqs, Queued.failed, if_pos hin]

theorem reportDropped_window {a : Attempt} {q : Queued} {qs : List Queued} (ha : a.item = .window)
    (hq : s.line.queue = q :: qs) (hin : q.inAttempt = true) :
    reportDropped a s = windowDropped q.frame (s.withLine { s.line with queue := qs }) := by
  unfold reportDropped
  rw [ha]
  dsimp only
  rw [hq, List.find?_cons_of_pos hin]
  dsimp only
  rw [List.eraseP_cons_of_pos hin]

/-- Settles O38: the report of each item's failure on the backed-off line, and of its eighth on the jammed one. -/
theorem collisionBacksOff : Obligations.CollisionBacksOff := by
  intro a r s hrun ha hr hown hm
  rw [collision_eq hrun ha hr hown hm]
  refine ⟨fun hi => ⟨fun hn => ?markFails, fun hn => ?markDrops⟩, fun hi => ⟨fun hn => ?stateFails, fun hn => ?stateDrops⟩,
    fun second hi => ⟨fun hn => ⟨fun hw => ?bankFails, fun hw => ?bankCloses⟩, fun hn => ?bankDrops⟩,
    fun sc reply hi hsc hreply => ⟨fun hn => ?replyFails, fun hn => ?replyDrops⟩,
    fun hi => ⟨fun hn => ?orphanFails, fun hn => ?orphanDrops⟩,
    fun q qs hi hq hin hqs => ⟨fun hn => ?windowFails, fun hn => ?windowDrops⟩⟩
  case markFails =>
    rw [collide_below (by unfold failuresOf; rw [hi]) hn]
    unfold reportFailed
    rw [hi]
    rfl
  case markDrops =>
    rw [collide_eighth (by unfold failuresOf; rw [hi]) hn]
    unfold reportDropped
    rw [hi]
    rfl
  case stateFails =>
    rw [collide_below (by unfold failuresOf; rw [hi]) hn]
    unfold reportFailed
    rw [hi]
    rfl
  case stateDrops =>
    rw [collide_eighth (by unfold failuresOf; rw [hi]) hn]
    unfold reportDropped
    rw [hi]
    rfl
  case bankFails =>
    have hw' : ¬ BankWaits second s := by cases second <;> exact hw
    rw [collide_below (by unfold failuresOf; rw [hi]) hn]
    unfold reportFailed
    rw [hi]
    dsimp only
    rw [bankReport_failed_alone (by exact hw')]
    cases second <;> rfl
  case bankCloses =>
    have hw' : BankWaits second s := by cases second <;> exact hw
    rw [collide_below (by unfold failuresOf; rw [hi]) hn]
    unfold reportFailed
    rw [hi]
    dsimp only
    rw [bankReport_failed (by exact hw')]
    cases second <;> rfl
  case bankDrops =>
    rw [collide_eighth (by unfold failuresOf; rw [hi]) hn]
    unfold reportDropped
    rw [hi]
    dsimp only
    rw [bankReport_leaves (rep := .dropped) nofun rfl]
    cases second <;> rfl
  case replyFails =>
    rw [collide_below (by unfold failuresOf; rw [hi]) hn]
    unfold reportFailed
    rw [hi]
    dsimp only
    rw [recallReport_failed]
    rfl
  case replyDrops =>
    rw [collide_eighth (by unfold failuresOf; rw [hi]) hn]
    unfold reportDropped
    rw [hi]
    dsimp only
    generalize hu : (s.withLine s.line.jamBegun).withLine _ = u
    have hscan : u.ring.scan = some sc := by rw [← hu]; exact hsc
    have hzero : u.line.replyFailures = 0 := by rw [← hu]; rfl
    rw [recallReport_dropped hscan hreply hzero]
    subst hu
    rfl
  case orphanFails =>
    rw [collide_below (by unfold failuresOf; rw [hi]) hn]
    unfold reportFailed
    rw [hi]
    dsimp only
    cases hsc : s.ring.scan with
    | none => exact congrArg Host.Outcome.next (assembleReply_of_noScan hsc)
    | some sc =>
      dsimp only
      by_cases hreply : sc.reply = none
      · rw [if_pos hreply]
        exact congrArg Host.Outcome.next (assembleReply_of_none hsc hreply)
      · rw [if_neg hreply]
        exact congrArg Host.Outcome.next (assembleReply_of_some hsc hreply)
  case orphanDrops =>
    rw [collide_eighth (by unfold failuresOf; rw [hi]) hn]
    unfold reportDropped
    rw [hi]
    dsimp only
    cases hsc : s.ring.scan with
    | none => exact congrArg (fun u => Host.Outcome.next (setFlag .frameDropped u)) (assembleReply_of_noScan hsc)
    | some sc =>
      dsimp only
      by_cases hreply : sc.reply = none
      · rw [if_pos hreply]
        exact congrArg (fun u => Host.Outcome.next (setFlag .frameDropped u)) (assembleReply_of_none hsc hreply)
      · rw [if_neg hreply]
        exact congrArg (fun u => Host.Outcome.next (setFlag .frameDropped u)) (assembleReply_of_some hsc hreply)
  case windowFails =>
    rw [collide_below (failuresOf_window hi hq hin) hn,
      reportFailed_window (s := s.withLine (s.line.backedOff (q.failures + 1) s.clock.nanoseconds)) hi hq hin hqs]
    cases hf : q.frame with
    | ask id cls duration affect => exact congrArg Host.Outcome.next (if_neg Bool.false_ne_true)
    | defer w lead e g marked =>
      rw [deferLost_eq]
      exact congrArg Host.Outcome.next (if_congr decide_eq_true_iff rfl rfl)
    | withdraw id start => rfl
  case windowDrops =>
    rw [collide_eighth (failuresOf_window hi hq hin) hn,
      reportDropped_window (s := s.withLine s.line.jamBegun) hi hq hin]
    cases q.frame with
    | ask id cls duration affect => rfl
    | defer w lead e g marked =>
      exact congrArg (fun u => Host.Outcome.next (setFlag .frameDropped u)) (deferLost_eq w lead e g marked _)
    | withdraw id start => rfl

end Sys2Proof.Machine
end

section
/-! The flags, their gates, the alarm and the STATE period; commits and overwrites. -/

namespace Sys2Proof.Machine

variable {s t : State}

/-! ## The gates (R167, R169, R170, R175) -/

/-- A closed gate: its pulse requested and a STATE handed over. -/
theorem closeGate_eq (g : Group) (s : State) : closeGate g s = { s with
    flag := { s.flag with
      closed := s.flag.closed.set g true, release := some (s.tick + 100000)
      stateTimer := s.flag.stateTimer.map fun _ => s.tick + s.cfg.statePeriod * 10000000
      expiryWaits := s.flag.expiryWaits || s.flag.stateTimer.any fun n => decide (n ≤ s.tick) }
    line := { s.line with
      stateSlot :=
        if s.line.attempting .state then { s.line.stateSlot with waiting := true }
        else { full := true, failures := 0, waiting := false } } } := rfl

theorem setFlag_closes {f : Flag}
    (h : s.cfg.masks.get f.group &&& f.mask ≠ 0#8 ∧ s.flag.closed.get f.group = false) : setFlag f s =
      closeGate f.group
        (s.withFlag { s.flag with flags := s.flag.flags.set f.group (s.flag.flags.get f.group ||| f.mask) }) :=
  if_pos (by simpa [flagEnabled] using h)

theorem setFlag_alone {f : Flag}
    (h : ¬ (s.cfg.masks.get f.group &&& f.mask ≠ 0#8 ∧ s.flag.closed.get f.group = false)) : setFlag f s =
      s.withFlag { s.flag with flags := s.flag.flags.set f.group (s.flag.flags.get f.group ||| f.mask) } :=
  if_neg (by simpa [flagEnabled] using h)

theorem tickReached_iff {n : Nat} {o : Option Nat} (h : o = some n) : tickReached o s = true ↔ n ≤ s.tick := by
  subst h
  exact decide_eq_true_iff

theorem periodExpired_eq (hrun : s.running = true) : periodExpired s =
    (s.flag.expiryWaits || s.flag.stateTimer.any fun n => decide (n ≤ s.tick)) := by
  unfold periodExpired
  rw [hrun, Bool.true_and]
  rfl

/-- Settles O57: the flag at its gate, the alarm at its release, the period at its expiry. -/
theorem gatesAlarmAndStatePeriod : Obligations.GatesAlarmAndStatePeriod := by
  refine ⟨fun f s => ?flag, fun n s hn => ⟨fun h => ?released, fun h => ?notYet⟩,
    fun s hrun => ⟨fun h => ?expired, fun hwaits htimer => ?running⟩⟩
  case flag =>
    dsimp only
    by_cases h : s.cfg.masks.get f.group &&& f.mask ≠ 0#8 ∧ s.flag.closed.get f.group = false
    · rw [if_pos h, setFlag_closes h]
      rfl
    · rw [if_neg h, setFlag_alone h]
      rfl
  case released =>
    show Host.Outcome.next (if tickReached s.flag.release s = true then _ else s) = _
    rw [if_pos ((tickReached_iff hn).mpr h)]
    rfl
  case notYet =>
    show Host.Outcome.next (if tickReached s.flag.release s = true then _ else s) = _
    rw [if_neg (mt (tickReached_iff hn).mp (Nat.not_le.mpr h))]
  case expired =>
    show Host.Outcome.next (if periodExpired s = true then periodicState s else s) = _
    rw [if_pos ((periodExpired_eq hrun).trans (Bool.or_eq_true _ _ ▸ h))]
    rfl
  case running =>
    have hnot : periodExpired s = false := (periodExpired_eq hrun).trans (by rw [hwaits]; exact htimer)
    show Host.Outcome.next (if periodExpired s = true then periodicState s else s) = _
    rw [if_neg (by rw [hnot]; exact Bool.false_ne_true)]

/-! ## A CLEAR (R171, R172) -/

theorem clearFlags_opens {g : Group} {mask : Byte}
    (h : s.flag.flags.get g &&& ~~~mask &&& s.cfg.masks.get g = 0#8) : clearFlags g mask s = { s with
      flag := { s.flag with
        flags := s.flag.flags.set g (s.flag.flags.get g &&& ~~~mask), closed := s.flag.closed.set g false } } :=
  if_neg (fun hne => hne h)

theorem PerGroup.set_set {α : Type} (p : PerGroup α) (g : Group) (u v : α) : (p.set g u).set g v = p.set g v := by
  cases g <;> rfl

theorem clearFlags_closes {g : Group} {mask : Byte}
    (h : s.flag.flags.get g &&& ~~~mask &&& s.cfg.masks.get g ≠ 0#8) : clearFlags g mask s = { s with
      flag := { s.flag with
        flags := s.flag.flags.set g (s.flag.flags.get g &&& ~~~mask), closed := s.flag.closed.set g true
        release := some (s.tick + 100000)
        stateTimer := s.flag.stateTimer.map fun _ => s.tick + s.cfg.statePeriod * 10000000
        expiryWaits := s.flag.expiryWaits || s.flag.stateTimer.any fun n => decide (n ≤ s.tick) }
      line := { s.line with
        stateSlot :=
          if s.line.attempting .state then { s.line.stateSlot with waiting := true }
          else { full := true, failures := 0, waiting := false } } } := by
  unfold clearFlags
  dsimp only
  rw [if_pos h, closeGate_eq, State.withFlag_flag]
  dsimp only
  rw [PerGroup.set_set]
  rfl

/-- The group codes as a list. -/
theorem ofCode_eq (n : Nat) : Group.ofCode n = [Group.time, .line, .data, .window, .start][n]? := by
  match n with
  | 0 | 1 | 2 | 3 | 4 => rfl
  | n + 5 => rfl

/-- Settles O56: the CLEARs that the Flag Unit ignores, and the two ends of one that it takes. -/
theorem clearReopensTheGate : Obligations.ClearReopensTheGate := by
  intro r s h hkind hs
  have hexec : exec .clearReceived s = .next (takeClear (frameOf r.chars) (ended s)) :=
    congrArg Host.Outcome.next (commitFrame_other h (isKind_of_eq hkind) hs)
  refine ⟨fun hnot => ?ignored, fun g hlen hto hg => ?taken⟩
  case ignored =>
    rw [hexec]
    unfold takeClear
    rw [ofCode_eq]
    cases hg : [Group.time, .line, .data, .window, .start][natAt 1 1 (frameOf r.chars).payload]? with
    | none => rfl
    | some g =>
      have hcode : natAt 1 1 (payloadOf r) < 5 := (List.getElem?_eq_some_iff.mp hg).1
      refine congrArg Host.Outcome.next (if_neg fun htaken => ?_)
      obtain ⟨hlen, hto⟩ := htaken
      obtain hlen' | ⟨hown, hall⟩ | hcode' := hnot
      · exact hlen' hlen
      · exact hto.elim hown hall
      · omega
  case taken =>
    have hclear : exec .clearReceived s = .next (clearFlags g ((payloadOf r).getD 2 0) (ended s)) := by
      rw [hexec]
      unfold takeClear
      rw [ofCode_eq, show [Group.time, .line, .data, .window, .start][natAt 1 1 (frameOf r.chars).payload]? = some g from hg]
      exact congrArg Host.Outcome.next (if_pos ⟨hlen, hto⟩)
    rw [hclear]
    exact ⟨fun hleft => congrArg Host.Outcome.next (clearFlags_opens hleft),
      fun hleft => congrArg Host.Outcome.next (clearFlags_closes hleft)⟩

/-! ## Commits and overwrites (R146, R147, R162) -/

theorem commit_of_full (r : Record) (h : 16384 ≤ s.ring.records.length) : commit r s = setFlag .ringWrap
    (s.withRing { s.ring with
      records := s.ring.records.tail ++ [r], base := s.ring.base + 1
      scan := s.ring.scan.map (Scan.overwritten s.ring.base) }) := by
  have hfull : s.ring.full = true := decide_eq_true h
  unfold commit RecordRing.add
  rw [hfull]
  rfl

theorem overwritten_elsewhere {sc : Scan} {n : Nat} (h : sc.nextRecord ≠ some n) : sc.overwritten n = sc := if_neg h

theorem overwritten_next {sc : Scan} {n : Nat} (h : sc.nextRecord = some n) : sc.overwritten n = { sc with
    gap := true, nextRecord := if sc.endRecord = some n then none else some (n + 1) } := if_pos h

/-- Settles O55: the ring with room, and the full one with the scan that stands in it. -/
theorem commitsAndOverwrites : Obligations.CommitsAndOverwrites := by
  intro r s
  refine ⟨fun h => commit_of_room r h, fun oldest rest hrecords h => ?_⟩
  rw [commit_of_full r h]
  rw [setFlag_ring, flagIsSet_setFlag, State.withRing_ring, hrecords]
  refine ⟨rfl, rfl, rfl, rfl, Or.inr rfl, fun sc hsc => ⟨fun hn => ?_, fun hn => ?_⟩⟩
  · rw [hsc]
    exact congrArg some (overwritten_elsewhere hn)
  · rw [hsc]
    exact congrArg some (overwritten_next hn)

end Sys2Proof.Machine
end

section
/-! The recall: the scan that a RECALL starts, and the walk of a reply. -/

namespace Sys2Proof.Machine

variable {s t : State}

/-! ## The walk (R161) -/

/-- What a walk over the records from place k on has done when it has passed m of them, the reply holding `got` and the
scan n before. -/
structure WalkSpec (p : Record → Bool) (last : Option Nat) (rs : List Record) (k : Nat) (got : List Record) (n : Nat)
    (w : Walked) (m : Nat) : Prop where
  passed : m ≤ rs.length
  records : w.records = got ++ (rs.take m).filter p
  atMostSix : w.records.length ≤ 6
  collected : w.collected = n + ((rs.take m).filter p).length
  atMostLimit : w.collected ≤ 256
  notBeyondEnd : ∀ j, j + 1 < m → last ≠ some (k + j)
  notBeyondCount : ∀ j < m, got.length + ((rs.take j).filter p).length < 6 ∧ n + ((rs.take j).filter p).length < 256
  goesOn : w.final = false → w.records.length = 6 ∧ w.nextRecord = some (k + m) ∧ w.collected < 256 ∧
    ∀ j < m, last ≠ some (k + j)
  ends : w.final = true → w.nextRecord = none ∧
    (m = rs.length ∨ w.collected = 256 ∨ (0 < m ∧ last = some (k + m - 1)))
  endsAtEnd : ∀ j, j + 1 = m → last = some (k + j) → w.final = true
  endsAtLimit : w.collected = 256 → w.final = true

theorem walkSpec_nil (p : Record → Bool) (last : Option Nat) (k : Nat) {got : List Record} {n : Nat}
    (hgot : got.length < 6) (hn : n < 256) :
    WalkSpec p last [] k got n { records := got, collected := n, nextRecord := none, final := true } 0 where
  passed := Nat.zero_le _
  records := by simp
  atMostSix := hgot.le
  collected := rfl
  atMostLimit := hn.le
  notBeyondEnd := nofun
  notBeyondCount := nofun
  goesOn := nofun
  ends _ := ⟨rfl, Or.inl rfl⟩
  endsAtEnd := nofun
  endsAtLimit _ := rfl

/-- A walk that stops at its first record. -/
theorem walkSpec_stop {p : Record → Bool} {last : Option Nat} {r : Record} {rs : List Record} {k : Nat}
    {got : List Record} {n : Nat} {final : Bool} (hgot : got.length < 6) (hn : n < 256)
    (hfinal : final = true ↔ 256 ≤ n + ([r].filter p).length ∨ last = some k)
    (hsix : final = false → 6 ≤ (got ++ [r].filter p).length) :
    WalkSpec p last (r :: rs) k got n
      { records := got ++ [r].filter p, collected := n + ([r].filter p).length
        nextRecord := if final then none else some (k + 1), final := final } 1 where
  passed := by simp
  records := rfl
  atMostSix := by
    have h1 := List.length_filter_le p [r]
    rw [List.length_append]
    simp only [List.length_singleton] at h1
    omega
  collected := rfl
  atMostLimit := by
    have h1 := List.length_filter_le p [r]
    simp only [List.length_singleton] at h1
    show n + ([r].filter p).length ≤ 256
    omega
  notBeyondEnd j hj := by omega
  notBeyondCount j hj := by
    obtain rfl : j = 0 := by omega
    exact ⟨hgot, hn⟩
  goesOn hf := by
    have hf : final = false := hf
    have h1 := List.length_filter_le p [r]
    have h6 := hsix hf
    have hnot := mt hfinal.mpr (by rw [hf]; exact Bool.false_ne_true)
    rw [not_or, Nat.not_le] at hnot
    rw [List.length_append] at h6
    simp only [List.length_singleton] at h1
    refine ⟨?_, by rw [hf]; rfl, hnot.1, fun j hj => ?_⟩
    · rw [List.length_append]
      omega
    · obtain rfl : j = 0 := by omega
      exact hnot.2
  ends hf := by
    have hf : final = true := hf
    have h1 := List.length_filter_le p [r]
    simp only [List.length_singleton] at h1
    refine ⟨by rw [hf]; rfl, ?_⟩
    obtain hlimit | hlast := hfinal.mp hf
    · exact Or.inr (Or.inl (show n + ([r].filter p).length = 256 by omega))
    · exact Or.inr (Or.inr ⟨Nat.one_pos, hlast⟩)
  endsAtEnd j hj hlast := by
    obtain rfl : j = 0 := by omega
    exact hfinal.mpr (Or.inr hlast)
  endsAtLimit h := hfinal.mpr (Or.inl (show n + ([r].filter p).length = 256 from h).ge)

/-- A walk that passes its first record and goes on. -/
theorem walkSpec_cons {p : Record → Bool} {last : Option Nat} {r : Record} {rs : List Record} {k : Nat}
    {got : List Record} {n m : Nat} {w : Walked} (hgot : got.length < 6) (hn : n < 256) (hlast : last ≠ some k)
    (h : WalkSpec p last rs (k + 1) (got ++ [r].filter p) (n + ([r].filter p).length) w m) :
    WalkSpec p last (r :: rs) k got n w (m + 1) := by
  have htake : ∀ i, ((r :: rs).take (i + 1)).filter p = [r].filter p ++ (rs.take i).filter p := fun i => by
    rw [List.take_succ_cons, ← List.filter_append]
    rfl
  have hplace : ∀ i, k + 1 + i = k + (i + 1) := fun i => by omega
  constructor
  case passed => exact Nat.succ_le_succ h.passed
  case records => rw [h.records, htake, List.append_assoc]
  case atMostSix => exact h.atMostSix
  case collected => rw [h.collected, htake, List.length_append, Nat.add_assoc]
  case atMostLimit => exact h.atMostLimit
  case notBeyondEnd =>
    rintro (_ | j) hj
    · exact hlast
    · rw [← hplace]
      exact h.notBeyondEnd j (by omega)
  case notBeyondCount =>
    rintro (_ | j) hj
    · exact ⟨hgot, hn⟩
    · have := h.notBeyondCount j (by omega)
      rw [List.length_append] at this
      rw [htake, List.length_append]
      omega
  case goesOn =>
    intro hf
    obtain ⟨hsix, hnext, hlimit, hend⟩ := h.goesOn hf
    refine ⟨hsix, by rw [hnext, hplace], hlimit, ?_⟩
    rintro (_ | j) hj
    · exact hlast
    · rw [← hplace]
      exact hend j (by omega)
  case ends =>
    intro hf
    obtain ⟨hnext, hstop⟩ := h.ends hf
    refine ⟨hnext, ?_⟩
    obtain hm | hlimit | ⟨hpos, hend⟩ := hstop
    · exact Or.inl (congrArg (· + 1) hm)
    · exact Or.inr (Or.inl hlimit)
    · refine Or.inr (Or.inr ⟨Nat.succ_pos m, hend.trans (congrArg some ?_)⟩)
      omega
  case endsAtEnd =>
    rintro (_ | j) hj hend
    · exact absurd hend hlast
    · rw [← hplace] at hend
      exact h.endsAtEnd j (by omega) hend
  case endsAtLimit => exact h.endsAtLimit

theorem filter_singleton_eq (p : Record → Bool) (r : Record) (got : List Record) (n : Nat) :
    (if p r then got ++ [r] else got) = got ++ [r].filter p ∧
      (if p r then n + 1 else n) = n + ([r].filter p).length := by
  by_cases h : p r <;> simp [h]

/-- A walk that stops neither before its first record nor beyond. -/
theorem walk_spec (first count : Nat) (last : Option Nat) (rs : List Record) : ∀ (k : Nat) (got : List Record) (n : Nat),
    got.length < 6 → n < 256 →
    ∃ m, WalkSpec (Record.inRange first count) last rs k got n (walk first count last rs k got n) m := by
  induction rs with
  | nil => exact fun k got n hgot hn => ⟨0, walkSpec_nil _ _ _ hgot hn⟩
  | cons r rs ih =>
    intro k got n hgot hn
    obtain ⟨hgot', hn'⟩ := filter_singleton_eq (Record.inRange first count) r got n
    have h1 := List.length_filter_le (Record.inRange first count) [r]
    unfold walk
    dsimp only
    rw [hgot', hn']
    by_cases hstop : Config.recallLimit ≤ n + ([r].filter (Record.inRange first count)).length ∨ last = some k
    · rw [if_pos hstop]
      exact ⟨1, walkSpec_stop (final := true) hgot hn (iff_of_true rfl hstop) nofun⟩
    · rw [if_neg hstop]
      by_cases hsix : 6 ≤ (got ++ [r].filter (Record.inRange first count)).length
      · rw [if_pos hsix]
        exact ⟨1, walkSpec_stop (final := false) hgot hn (iff_of_false Bool.false_ne_true hstop) fun _ => hsix⟩
      · rw [if_neg hsix]
        rw [not_or, Nat.not_le] at hstop
        obtain ⟨m, hm⟩ := ih (k + 1) _ _ (Nat.not_le.mp hsix) hstop.1
        exact ⟨m + 1, walkSpec_cons hgot hn hstop.2 hm⟩

/-! ## The reply of a scan (R161) -/

theorem assembled_zero {sc : Scan} (g : RecordRing) (h : sc.count = 0) : sc.assembled g = { sc with
    nextRecord := none, notHeld := false, gap := false
    reply := some { final := true, notHeld := false, gap := false, records := [] } } := if_pos h

theorem assembled_walk {sc : Scan} (g : RecordRing) (h : sc.count ≠ 0) : sc.assembled g = { sc with
    nextRecord := (sc.walkOn g).nextRecord, collected := (sc.walkOn g).collected, notHeld := false, gap := false
    reply := some { final := (sc.walkOn g).final, notHeld := sc.notHeld, gap := sc.gap
                    records := (sc.walkOn g).records } } := if_neg h

theorem walkOn_none {sc : Scan} (g : RecordRing) (h : sc.nextRecord = none) : sc.walkOn g =
    { records := [], collected := sc.collected, nextRecord := none, final := true } := by
  unfold Scan.walkOn
  rw [h]

theorem walkOn_some {sc : Scan} (g : RecordRing) {k : Nat} (h : sc.nextRecord = some k) : sc.walkOn g =
    walk sc.first sc.count sc.endRecord (g.records.drop (k - g.base)) k [] sc.collected := by
  unfold Scan.walkOn
  rw [h]

/-! ## The RECALL (R159, R160) -/

theorem startScan_free {first count : Nat} (h : ∀ a o, s.line.attempt = some a → a.item ≠ .reply o) :
    startScan first count s =
      (s.withRing { s.ring with scan := some ((newScan first count s.ring).assembled s.ring) }).withLine
        { s.line with replyFailures := 0 } := by
  have hnot : s.line.replying = false := by
    unfold LineUnit.replying
    cases ha : s.line.attempt with
    | none => rfl
    | some a =>
      cases hi : a.item with
      | reply o => exact absurd hi (h a o ha)
      | window => simp [hi]
      | mark => simp [hi]
      | state => simp [hi]
      | bank i => simp [hi]
  unfold startScan
  dsimp only
  rw [if_neg (by rw [hnot]; exact Bool.false_ne_true), assembleReply_of_none rfl rfl]
  rfl

theorem startScan_replying {first count : Nat} {a : Attempt} {o : Bool} (ha : s.line.attempt = some a)
    (hi : a.item = .reply o) : startScan first count s =
      (s.withRing { s.ring with scan := some (newScan first count s.ring) }).withLine
        { s.line with attempt := some { a with item := .reply true } } := by
  have horphan : a.orphan = { a with item := .reply true } := by
    unfold Attempt.orphan
    rw [hi]
  have hreplying : s.line.replying = true := by
    unfold LineUnit.replying
    rw [ha, Option.any_some, hi]
  unfold startScan
  dsimp only
  rw [if_pos hreplying, ha, Option.map_some, horphan]

/-- Settles O54: the RECALL's scan, the reply that a scan assembles, and its walk. -/
theorem recallIsAnswered : Obligations.RecallIsAnswered := by
  refine ⟨fun r s h hkind hs => ?recalled, fun g sc => ⟨fun h0 => ?zero, fun h0 hk => ?none, ?marks, fun k h0 hk => ?some⟩,
    fun first count k n last rs hn => ?walk⟩
  case recalled =>
    have hexec : exec .recallReceived s = .next (takeRecall (frameOf r.chars) (ended s)) :=
      congrArg Host.Outcome.next (commitFrame_other h (isKind_of_eq hkind) hs)
    refine ⟨fun hnot => ?_, fun hlen hto => ⟨fun hfree => ?_, fun a o ha hi => ?_⟩⟩
    · rw [hexec]
      exact congrArg Host.Outcome.next (if_neg fun ⟨hlen, hto⟩ => hnot.elim (· hlen) (· hto))
    all_goals
      have htaken : takeRecall (frameOf r.chars) (ended s) =
          startScan (natAt 1 4 (payloadOf r)) (natAt 5 2 (payloadOf r)) (ended s) := if_pos ⟨hlen, hto⟩
      rw [hexec, htaken]
    · rw [startScan_free (s := ended s) hfree]
      rfl
    · rw [startScan_replying (s := ended s) ha hi]
      rfl
  case zero => rw [assembled_zero g h0]
  case none =>
    rw [assembled_walk g h0, walkOn_none g hk]
    exact ⟨rfl, rfl⟩
  case marks =>
    by_cases h0 : sc.count = 0
    · rw [assembled_zero g h0]
      exact ⟨rfl, rfl⟩
    · rw [assembled_walk g h0]
      exact ⟨rfl, rfl⟩
  case some =>
    rw [assembled_walk g h0, walkOn_some g hk]
    exact ⟨rfl, rfl, rfl⟩
  case walk =>
    intro w inRange
    have hin : inRange = Record.inRange first count := by
      funext r
      obtain ⟨_, _, _, _, _, _, body⟩ := r
      cases body <;> rfl
    rw [hin]
    obtain ⟨m, hm⟩ := walk_spec first count last rs k [] n (by decide) hn
    have hrecords : w.records = (rs.take m).filter (Record.inRange first count) := hm.records
    refine ⟨m, hm.passed, hrecords, hm.atMostSix, by rw [hrecords]; exact hm.collected, hm.atMostLimit, hm.notBeyondEnd,
      fun j hj => ?_, hm.goesOn, hm.ends, hm.endsAtEnd, hm.endsAtLimit⟩
    simpa using hm.notBeyondCount j hj

end Sys2Proof.Machine
end

section
/-! Rounded quotients, and the correction tables. -/

namespace Sys2Proof.Machine

/-! ## The quotient rounded half away from zero (00, Conventions) -/

theorem roundHalfAway_spec (num : Int) {den : Nat} (hden : 0 < den) : HalfAway num den (roundHalfAway num den) := by
  have h1 := Nat.div_mul_le_self (2 * num.natAbs + den) (2 * den)
  have h2 := Nat.lt_div_mul_add (a := 2 * num.natAbs + den) (b := 2 * den) (by omega)
  unfold HalfAway roundHalfAway
  generalize (2 * num.natAbs + den) / (2 * den) = q at h1 h2
  generalize hp : q * den = p
  have hpi : (q : Int) * den = p := by exact_mod_cast hp
  have hd : q * (2 * den) = 2 * p := by rw [← hp]; ring
  rw [hd] at h1 h2
  by_cases hnum : 0 ≤ num
  · rw [if_pos hnum, hpi]
    omega
  · rw [if_neg hnum, neg_mul, hpi]
    omega

theorem roundHalfAway_neg (num : Int) {den : Nat} (hden : 0 < den) :
    roundHalfAway (-num) den = -roundHalfAway num den := by
  have hhalf : den / (2 * den) = 0 := Nat.div_eq_of_lt (by omega)
  unfold roundHalfAway
  rw [Int.natAbs_neg]
  rcases lt_trichotomy num 0 with h | rfl | h
  · rw [if_pos (by omega), if_neg (by omega), neg_neg]
  · simp [hhalf]
  · rw [if_neg (by omega), if_pos (by omega)]

/-- The part x of den of a number that is not negative, rounded, lies within the number. -/
theorem roundHalfAway_part_bounds {d x : Int} {den : Nat} (hden : 0 < den) (hx : 0 ≤ x) (hx' : x ≤ den) (hd : 0 ≤ d) :
    0 ≤ roundHalfAway (d * x) den ∧ roundHalfAway (d * x) den ≤ d := by
  have hnum : 0 ≤ d * x := mul_nonneg hd hx
  obtain ⟨d, rfl⟩ := Int.eq_ofNat_of_zero_le hd
  obtain ⟨x, rfl⟩ := Int.eq_ofNat_of_zero_le hx
  have hx' : x ≤ den := by exact_mod_cast hx'
  have habs : ((d : Int) * x).natAbs = d * x := by rw [← Nat.cast_mul, Int.natAbs_natCast]
  unfold roundHalfAway
  rw [if_pos hnum, habs]
  refine ⟨Int.natCast_nonneg _, Int.ofNat_le.mpr (Nat.lt_succ_iff.mp (Nat.div_lt_of_lt_mul ?_))⟩
  have hle : d * x ≤ d * den := Nat.mul_le_mul_left d hx'
  calc 2 * (d * x) + den ≤ 2 * (d * den) + den := by omega
    _ < 2 * den * (d + 1) := by nlinarith

theorem roundHalfAway_between {u v x : Int} {den : Nat} (hden : 0 < den) (hx : 0 ≤ x) (hx' : x ≤ den) :
    min u v ≤ u + roundHalfAway ((v - u) * x) den ∧ u + roundHalfAway ((v - u) * x) den ≤ max u v := by
  by_cases h : u ≤ v
  · obtain ⟨hlo, hhi⟩ := roundHalfAway_part_bounds hden hx hx' (sub_nonneg.mpr h)
    omega
  · obtain ⟨hlo, hhi⟩ := roundHalfAway_part_bounds hden hx hx' (d := u - v) (by omega)
    rw [show (v - u) * x = -((u - v) * x) by ring, roundHalfAway_neg _ hden]
    omega

/-! ## The tables (R133, R134) -/

theorem tableFrom_between {a b : Breakpoint} {behind : List Breakpoint} {t : Int} (ha : a.temperature ≤ t)
    (hb : t < b.temperature) : ∀ (before : List Breakpoint) (x : Breakpoint) (rest : List Breakpoint),
    x :: rest = before ++ a :: b :: behind → (x :: rest).Pairwise (fun p q => p.temperature < q.temperature) →
    x.temperature ≤ t ∧ tableFrom t x rest =
      (interpolate a.temperature b.temperature a.offset b.offset t,
        interpolate a.temperature b.temperature a.scale b.scale t, false)
  | [], x, rest, heq, _ => by
    obtain ⟨rfl, rfl⟩ := List.cons_eq_cons.mp heq
    exact ⟨ha, if_pos hb⟩
  | y :: before, x, rest, heq, hrises => by
    rw [List.cons_append] at heq
    obtain ⟨rfl, rfl⟩ := List.cons_eq_cons.mp heq
    obtain ⟨z, rest', hz⟩ : ∃ z rest', before ++ a :: b :: behind = z :: rest' := by
      cases before <;> exact ⟨_, _, rfl⟩
    obtain ⟨hfirst, hrest⟩ := List.pairwise_cons.mp hrises
    obtain ⟨hle, htable⟩ := tableFrom_between ha hb before z rest' hz.symm (hz ▸ hrest)
    rw [hz]
    have hlt : x.temperature < z.temperature := hfirst z (by rw [hz]; exact List.mem_cons_self)
    exact ⟨by omega, (if_neg (by omega)).trans htable⟩

theorem tableFrom_behind {t : Int} : ∀ (table : List Breakpoint) (a z : Breakpoint),
    (a :: table).Pairwise (fun p q => p.temperature < q.temperature) → (a :: table).getLast? = some z →
    z.temperature ≤ t → a.temperature ≤ t ∧ tableFrom t a table = (z.offset, z.scale, decide (z.temperature < t))
  | [], a, z, _, hz, ht => by
    obtain rfl : a = z := Option.some.inj hz
    exact ⟨ht, rfl⟩
  | b :: table, a, z, hrises, hz, ht => by
    obtain ⟨hfirst, hrest⟩ := List.pairwise_cons.mp hrises
    obtain ⟨hle, htable⟩ := tableFrom_behind table b z hrest (by rw [← hz, List.getLast?_cons_cons]) ht
    have hlt := hfirst b List.mem_cons_self
    exact ⟨by omega, (if_neg (by omega)).trans htable⟩

/-- The term that interpolation adds, as a rounded quotient between its breakpoints. -/
theorem interpolated_spec {t0 t1 u v t : Int} (h0 : t0 ≤ t) (h1 : t < t1) :
    let q := roundHalfAway ((v - u) * (t - t0)) (t1 - t0).natAbs
    2 * ((v - u) * (t - t0) - q * (t1 - t0)).natAbs ≤ (t1 - t0).natAbs ∧
      (2 * ((v - u) * (t - t0) - q * (t1 - t0)).natAbs = (t1 - t0).natAbs →
        ((v - u) * (t - t0)).natAbs < (q * (t1 - t0)).natAbs) ∧
      min u v ≤ u + q ∧ u + q ≤ max u v := by
  have hpos : 0 < (t1 - t0).natAbs := by omega
  have hcast : ((t1 - t0).natAbs : Int) = t1 - t0 := by omega
  obtain ⟨hnear, htie⟩ := roundHalfAway_spec ((v - u) * (t - t0)) hpos
  rw [hcast] at hnear htie
  exact ⟨hnear, htie, roundHalfAway_between hpos (by omega) (by omega)⟩

theorem lookUp_from {x y : Breakpoint} {rest : List Breakpoint} {t : Int} (h : x.temperature ≤ t) :
    lookUp (x :: y :: rest) t = tableFrom t x (y :: rest) := if_neg (not_lt.mpr h)

theorem lookUp_between {before behind : List Breakpoint} {a b : Breakpoint} {t : Int}
    (hrises : (before ++ a :: b :: behind).Pairwise (fun p q => p.temperature < q.temperature))
    (ha : a.temperature ≤ t) (hb : t < b.temperature) : lookUp (before ++ a :: b :: behind) t =
      (interpolate a.temperature b.temperature a.offset b.offset t,
        interpolate a.temperature b.temperature a.scale b.scale t, false) := by
  obtain ⟨x, y, rest, hx⟩ : ∃ x y rest, before ++ a :: b :: behind = x :: y :: rest := by
    match before with
    | [] => exact ⟨_, _, _, rfl⟩
    | [p] => exact ⟨_, _, _, rfl⟩
    | p :: q :: before => exact ⟨_, _, _, rfl⟩
  rw [hx] at hrises
  obtain ⟨hle, htable⟩ := tableFrom_between ha hb before x (y :: rest) hx.symm hrises
  rw [hx, lookUp_from hle, htable]

/-- Settles O53: the interpolation between two breakpoints, and the ends. -/
theorem tablesAreInterpolated : Obligations.TablesAreInterpolated := by
  refine ⟨fun before behind a b t hrises ha hb => ?between, fun a b table t hrises => ⟨fun h => if_pos h, fun z hz ht => ?_⟩,
    fun a t => ⟨rfl, rfl⟩⟩
  case between =>
    refine ⟨_, _, lookUp_between hrises ha hb, ?_⟩
    exact ⟨interpolated_spec ha hb, interpolated_spec ha hb⟩
  · obtain ⟨hle, htable⟩ := tableFrom_behind (b :: table) a z hrises (by rw [List.getLast?_cons_cons, hz]) ht
    rw [lookUp_from hle, htable]

end Sys2Proof.Machine
end

section
/-! Numbers at their places, records and frames: what is written is read. -/

namespace Sys2Proof.Machine

/-! ## Numbers at their places (R194) -/

theorem placed_succ (k n : Nat) (bs : List Byte) :
    placed k (n + 1) bs = (bs.getD k 0).toNat + 256 * placed (k + 1) n bs := by
  unfold placed
  rw [List.range_succ_eq_map, List.foldr_cons, List.foldr_map]
  simp only [Nat.succ_eq_add_one, Nat.add_zero, Nat.add_assoc, Nat.add_comm 1]

theorem natAt_succ (k n : Nat) (bs : List Byte) :
    natAt k (n + 1) bs = (bs.getD k 0).toNat + 256 * natAt (k + 1) n bs := by
  unfold natAt bytesAt
  by_cases h : k < bs.length
  · rw [List.drop_eq_getElem_cons h, List.take_succ_cons, leNat, List.getD_eq_getElem _ _ h]
  · rw [List.drop_eq_nil_of_le (by omega), List.drop_eq_nil_of_le (by omega), List.getD_eq_default _ _ (by omega)]
    simp [leNat]

/-- The bytes past the end of an image count as zero. -/
theorem placed_eq_natAt (k n : Nat) (bs : List Byte) : placed k n bs = natAt k n bs := by
  induction n generalizing k with
  | zero => rfl
  | succ n ih => rw [placed_succ, natAt_succ, ih]

theorem leNat_lt (bs : List Byte) : leNat bs < 256 ^ bs.length := by
  induction bs with
  | nil => exact Nat.one_pos
  | cons b bs ih =>
    have := b.isLt
    rw [leNat, List.length_cons, pow_succ]
    omega

theorem natAt_lt (k n : Nat) (bs : List Byte) : natAt k n bs < 256 ^ n :=
  (leNat_lt _).trans_le (Nat.pow_le_pow_right (by decide) (List.length_take_le n _))

theorem two_pow_eight_mul (n : Nat) : 2 ^ (8 * n) = 256 ^ n := by rw [pow_mul]; rfl

theorem placedSigned_eq_intAt (k : Nat) {n : Nat} (hn : 0 < n) (bs : List Byte) :
    placedSigned k n bs = intAt k n bs := by
  have hpow : 256 ^ n = 2 * 2 ^ (8 * n - 1) := by
    rw [← two_pow_eight_mul, ← pow_succ']
    congr 1
    omega
  unfold placedSigned intAt signedOf
  rw [placed_eq_natAt, two_pow_eight_mul]
  exact if_congr (by omega) rfl rfl

/-- A number in range is read back as written. -/
theorem signedOf_leBytes {n : Nat} {v : Int} (hlo : -(256 ^ n : Nat) ≤ 2 * v) (hhi : 2 * v < (256 ^ n : Nat)) :
    signedOf n (leNat (leBytes n v)) = v := by
  have hmod := leNat_leBytes n v
  have hlt := leNat_lt (leBytes n v)
  rw [leBytes_length] at hlt
  unfold signedOf
  generalize 256 ^ n = m at *
  generalize leNat (leBytes n v) = w at *
  by_cases h0 : 0 ≤ v
  · rw [Int.emod_eq_of_lt h0 (by omega)] at hmod
    rw [if_pos (by omega), hmod]
  · have hv : (w : Int) = v + m := by
      rw [hmod, ← Int.add_emod_right, Int.emod_eq_of_lt (by omega) (by omega)]
    rw [if_neg (by omega)]
    omega

theorem intAt_of_bytes {k n : Nat} {bs : List Byte} {v : Int} (h : bytesAt k n bs = leBytes n v)
    (hlo : -(256 ^ n : Nat) ≤ 2 * v) (hhi : 2 * v < (256 ^ n : Nat)) : intAt k n bs = v := by
  rw [intAt, natAt, h, signedOf_leBytes hlo hhi]

theorem natAt_of_bytes {k n v : Nat} {bs : List Byte} (h : bytesAt k n bs = leBytes n v) (hv : v < 256 ^ n) :
    natAt k n bs = v := by
  rw [natAt, h, leNat_leBytes_of_lt hv]

theorem natAt_one_of_bytes {k v : Nat} {bs : List Byte} (h : bytesAt k 1 bs = [BitVec.ofNat 8 v]) (hv : v < 256) :
    natAt k 1 bs = v := by
  rw [natAt, h]
  simp [leNat, Nat.mod_eq_of_lt hv]

/-! ## Codes and single bits -/

theorem bitSet_eq_testBit (k v : Nat) : bitSet k v = v.testBit k := by
  rw [bitSet, bitsOf, Nat.testBit_eq_decide_div_mod_eq]
  rfl

theorem weight_eq (k : Nat) (b : Bool) : weight k b = 2 ^ k * b.toNat := by
  cases b <;> simp [weight]

theorem bitSet_of_toNat {k v : Nat} {b : Bool} (h : v / 2 ^ k % 2 = b.toNat) : bitSet k v = b := by
  unfold bitSet bitsOf
  rw [pow_one, h]
  cases b <;> rfl

theorem RecordFlags.toNat_lt (f : RecordFlags) : f.toNat < 2048 := by
  have hb : ∀ b : Bool, b.toNat ≤ 1 := Bool.toNat_le
  have := hb f.stepped; have := hb f.blanked; have := hb f.partly; have := hb f.saturated; have := hb f.tableEdge
  have := hb f.tempHeld; have := hb f.tempStale; have := hb f.noTemp; have := hb f.disturbed; have := hb f.skipped
  have := hb f.missing
  simp only [RecordFlags.toNat, weight_eq]
  omega

theorem RecordFlags.ofNat_toNat (f : RecordFlags) : RecordFlags.ofNat f.toNat = f := by
  obtain ⟨a, b, c, d, e, f, g, h, i, j, k⟩ := f
  have hb : ∀ b : Bool, b.toNat ≤ 1 := Bool.toNat_le
  have := hb a; have := hb b; have := hb c; have := hb d; have := hb e; have := hb f; have := hb g; have := hb h
  have := hb i; have := hb j; have := hb k
  simp only [RecordFlags.ofNat, RecordFlags.toNat, weight_eq, RecordFlags.mk.injEq]
  refine ⟨?_, ?_, ?_, ?_, ?_, ?_, ?_, ?_, ?_, ?_, ?_⟩ <;> exact bitSet_of_toNat (by omega)

theorem Role.code_lt (r : Role) : r.code < 4 := by cases r <;> decide

theorem Timebase.code_lt (p : Timebase) : p.code < 4 := by cases p <;> decide

theorem sourceByte_toNat {station : Nat} (role : Role) (h : station < 16) :
    (sourceByte station role).toNat = station + 16 * role.code := by
  have := role.code_lt
  rw [sourceByte, BitVec.toNat_ofNat]
  omega

theorem sourceStation_sourceByte {station : Nat} (role : Role) (h : station < 16) :
    sourceStation (sourceByte station role) = station := by
  rw [sourceStation, sourceByte_toNat role h, bitsOf]
  omega

theorem sourceRole_sourceByte {station : Nat} (role : Role) (h : station < 16) :
    sourceRole (sourceByte station role) = role := by
  have hc : bitsOf 4 2 (station + 16 * role.code) = role.code := by
    have := role.code_lt
    rw [bitsOf]
    omega
  rw [sourceRole, sourceByte_toNat role h, hc]
  cases role <;> rfl

theorem ofByte_toByte {i : WinId} (hs : i.station < 16) (hq : i.seq < 16) : WinId.ofByte i.toByte = i := by
  have hn : i.toByte.toNat = i.station + 16 * i.seq := by
    rw [WinId.toByte, BitVec.toNat_ofNat]
    omega
  have hstation : bitsOf 0 4 (i.station + 16 * i.seq) = i.station := by
    rw [bitsOf]
    omega
  have hseq : bitsOf 4 4 (i.station + 16 * i.seq) = i.seq := by
    rw [bitsOf]
    omega
  rw [WinId.ofByte, hn, hstation, hseq]

/-! ## Frames (R58, R59) -/

section Frame

variable {station : Nat} {role : Role} {kind : Byte} {payload : List Byte}

/-- The characters of a whole frame: four before the payload, two behind it. -/
theorem sentChars_whole (station : Nat) (role : Role) (kind : Byte) (payload : List Byte) :
    sentChars station role kind payload.length payload =
      leadByte :: kind :: sourceByte station role :: BitVec.ofNat 8 payload.length ::
        (payload ++ leBytes 2 (crc (kind :: sourceByte station role :: BitVec.ofNat 8 payload.length :: payload)).toNat) := by
  unfold sentChars
  dsimp only
  rw [if_pos rfl]
  rfl

theorem lengthOf_cons {a b c : Byte} {n : Nat} (rest : List Byte) (h : n ≤ 200) :
    lengthOf (a :: b :: c :: BitVec.ofNat 8 n :: rest) = n :=
  natAt_one_of_bytes rfl (by omega)

theorem lengthOf_sent (h : payload.length ≤ 200) :
    lengthOf (sentChars station role kind payload.length payload) = payload.length := by
  rw [sentChars_whole, lengthOf_cons _ h]

theorem frameComplete_sent (h : payload.length ≤ 200) :
    frameComplete (sentChars station role kind payload.length payload) = true := by
  unfold frameComplete
  rw [lengthOf_sent h, sentChars_length rfl]
  simp

theorem checkPasses_sent (h : payload.length ≤ 200) :
    checkPasses (sentChars station role kind payload.length payload) = true := by
  unfold checkPasses
  rw [lengthOf_sent h, sentChars_whole]
  generalize hc : crc (kind :: sourceByte station role :: BitVec.ofNat 8 payload.length :: payload) = check
  have hbody : bytesAt 1 (payload.length + 3)
      (leadByte :: kind :: sourceByte station role :: BitVec.ofNat 8 payload.length :: (payload ++ leBytes 2 check.toNat)) =
      kind :: sourceByte station role :: BitVec.ofNat 8 payload.length :: payload := by
    simp [bytesAt]
  have hcheck : bytesAt (payload.length + 4) 2
      (leadByte :: kind :: sourceByte station role :: BitVec.ofNat 8 payload.length :: (payload ++ leBytes 2 check.toNat)) =
      leBytes 2 check.toNat := by
    simp [bytesAt]
  rw [hbody, hc, natAt_of_bytes hcheck check.isLt]
  exact decide_eq_true rfl

theorem frameComplete_cut (h : payload.length ≤ 200) {n : Nat} (hn : n < payload.length + 6) :
    frameComplete ((sentChars station role kind payload.length payload).take n) = false := by
  refine frameComplete_eq_false ?_
  have hlen : ((sentChars station role kind payload.length payload).take n).length = n := by
    rw [List.length_take, sentChars_length rfl]
    omega
  by_cases h4 : n < 4
  · exact Or.inl (hlen.trans_lt h4)
  · obtain ⟨m, rfl⟩ := Nat.exists_eq_add_of_le' (Nat.not_lt.mp h4)
    refine Or.inr (hlen.trans_lt ?_)
    rw [sentChars_whole]
    exact hn.trans_eq (congrArg (· + 6) (lengthOf_cons _ h).symm)

theorem frameOf_sent (hs : station < 16) (h : payload.length ≤ 200) :
    frameOf (sentChars station role kind payload.length payload) =
      { kind := kind, station := station, role := role, payload := payload } := by
  unfold frameOf
  rw [lengthOf_sent h, sentChars_whole]
  simp only [List.getD_cons_succ, List.getD_cons_zero, sourceStation_sourceByte role hs, sourceRole_sourceByte role hs,
    Frame.mk.injEq, true_and]
  simp [bytesAt]

end Frame

/-! ## Records (R153, R196) -/

/-- The tests of R153 on 32 bytes, with the numbers at their places. -/
def Accepts (station : Nat) (role : Role) (bs : List Byte) : Prop :=
  bitsOf 0 4 (natAt 0 1 bs) = 0 ∧ sourceStation (bs.getD 1 0) = station ∧ sourceRole (bs.getD 1 0) = role ∧
    natAt 6 2 bs ≤ 999 ∧
    valueAdmitted (optionalAt 10 4 absentValue bs) (bitsOf 0 4 (natAt 22 2 bs)) = true ∧
    valueAdmitted (optionalAt 14 4 absentValue bs) (bitsOf 4 4 (natAt 22 2 bs)) = true ∧
    valueAdmitted (optionalAt 18 4 absentValue bs) (bitsOf 8 4 (natAt 22 2 bs)) = true ∧
    temperatureAdmitted (optionalAt 24 2 absentTemperature bs) = true

/-- The values that 32 bytes hold. -/
def valuesAt (bs : List Byte) : Values :=
  { value := ⟨optionalAt 10 4 absentValue bs, optionalAt 14 4 absentValue bs, optionalAt 18 4 absentValue bs⟩
    valid := ⟨bitsOf 0 4 (natAt 22 2 bs), bitsOf 4 4 (natAt 22 2 bs), bitsOf 8 4 (natAt 22 2 bs)⟩
    temperature := optionalAt 24 2 absentTemperature bs }

theorem peerRecord_accepted {station : Nat} {role : Role} {bs : List Byte} {tb : Timebase}
    (ht : Timebase.ofCode (bitsOf 4 4 (natAt 0 1 bs)) = some tb) (h : Accepts station role bs) :
    peerRecord station role bs = some
      { station := station, role := role, seconds := natAt 2 4 bs, millis := natAt 6 2 bs, timebase := tb
        flags := RecordFlags.ofNat (natAt 8 2 bs), body := .peer (valuesAt bs) (asPeer bs) } := by
  unfold peerRecord
  dsimp only
  rw [ht]
  exact if_pos h

theorem peerRecord_discarded {station : Nat} {role : Role} {bs : List Byte}
    (h : Timebase.ofCode (bitsOf 4 4 (natAt 0 1 bs)) = none ∨ ¬ Accepts station role bs) :
    peerRecord station role bs = none := by
  unfold peerRecord
  dsimp only
  cases ht : Timebase.ofCode (bitsOf 4 4 (natAt 0 1 bs)) with
  | none => rfl
  | some tb => exact if_neg (h.resolve_left (by rw [ht]; exact Option.some_ne_none tb))

/-- A value that is written is read, its absence too. -/
theorem optionalAt_of_bytes {k n : Nat} {absent : Int} {bs : List Byte} {v : Option Int}
    (h : bytesAt k n bs = leBytes n (v.getD absent)) (hlo : -(256 ^ n : Nat) ≤ 2 * absent)
    (hhi : 2 * absent < (256 ^ n : Nat))
    (hv : ∀ x, v = some x → -(256 ^ n : Nat) ≤ 2 * x ∧ 2 * x < (256 ^ n : Nat) ∧ x ≠ absent) :
    optionalAt k n absent bs = v := by
  unfold optionalAt
  cases v with
  | none =>
    rw [intAt_of_bytes h hlo hhi]
    exact if_pos rfl
  | some x =>
    obtain ⟨hx, hx', hne⟩ := hv x rfl
    rw [intAt_of_bytes h hx hx']
    exact if_neg hne

theorem Timebase.ofCode_code (p : Timebase) : Timebase.ofCode p.code = some p := by cases p <;> rfl

theorem valueAdmitted_of {v : Option Int} {n : Nat} (hn : n ≤ 10)
    (hv : ∀ x, v = some x → x.natAbs ≤ 400000000 ∧ n ≠ 0) : valueAdmitted v n = true := by
  cases v with
  | none => simp [valueAdmitted, hn]
  | some x => simp [valueAdmitted, hn, hv x rfl]

section Own

variable {r : Record} {v : Values}

theorem bytes_of_own (h : r.body = .own v) : r.bytes =
    [BitVec.ofNat 8 (0 + 16 * r.timebase.code), sourceByte r.station r.role] ++ leBytes 4 r.seconds ++
      leBytes 2 r.millis ++ leBytes 2 r.flags.toNat ++
      (valueBytes v.value.x ++ valueBytes v.value.y ++ valueBytes v.value.z ++
        leBytes 2 (v.valid.x % 16 + 16 * (v.valid.y % 16) + 256 * (v.valid.z % 16) : Nat) ++
        leBytes 2 (v.temperature.getD absentTemperature) ++ leBytes 6 0) := by
  unfold Record.bytes Record.written
  rw [h]
  rfl

end Own

end Sys2Proof.Machine
end

section
/-! The records' round trip and their bytes. -/

namespace Sys2Proof.Machine

/-! ## An OWN record read as a PEER's (R153, R196) -/

section Own

variable {r : Record} {v : Values}

theorem accepts_own (h : r.body = .own v) (hs : r.station < 16) (hm : r.millis ≤ 999)
    (hv : ∀ c : Comp, v.valid.get c ≤ 10 ∧ ∀ x, v.value.get c = some x → x.natAbs ≤ 400000000 ∧ v.valid.get c ≠ 0)
    (ht : ∀ x, v.temperature = some x → -5000 ≤ x ∧ x ≤ 7000) :
    valuesAt r.bytes = v ∧ Accepts r.station r.role r.bytes := by
  have hx := hv .x
  have hy := hv .y
  have hz := hv .z
  have hcode := r.timebase.code_lt
  have hvalue : ∀ {o : Option Int} {n : Nat}, (∀ x, o = some x → x.natAbs ≤ 400000000 ∧ n ≠ 0) →
      ∀ x, o = some x → -(256 ^ 4 : Nat) ≤ 2 * x ∧ 2 * x < (256 ^ 4 : Nat) ∧ x ≠ absentValue := fun ho x hox => by
    have := (ho x hox).1
    unfold absentValue
    omega
  have h0 : natAt 0 1 r.bytes = 0 + 16 * r.timebase.code :=
    natAt_one_of_bytes (by rw [bytes_of_own h]; rfl) (by omega)
  have h1 : r.bytes.getD 1 0 = sourceByte r.station r.role := by rw [bytes_of_own h]; rfl
  have hmillis : natAt 6 2 r.bytes = r.millis := natAt_of_bytes (by rw [bytes_of_own h]; rfl) (by omega)
  have hvx : optionalAt 10 4 absentValue r.bytes = v.value.x :=
    optionalAt_of_bytes (by rw [bytes_of_own h]; rfl) (by decide) (by decide) (hvalue hx.2)
  have hvy : optionalAt 14 4 absentValue r.bytes = v.value.y :=
    optionalAt_of_bytes (by rw [bytes_of_own h]; rfl) (by decide) (by decide) (hvalue hy.2)
  have hvz : optionalAt 18 4 absentValue r.bytes = v.value.z :=
    optionalAt_of_bytes (by rw [bytes_of_own h]; rfl) (by decide) (by decide) (hvalue hz.2)
  have hvt : optionalAt 24 2 absentTemperature r.bytes = v.temperature :=
    optionalAt_of_bytes (by rw [bytes_of_own h]; rfl) (by decide) (by decide) fun x hx => by
      have := ht x hx
      unfold absentTemperature
      omega
  have hcounts : natAt 22 2 r.bytes = v.valid.x % 16 + 16 * (v.valid.y % 16) + 256 * (v.valid.z % 16) :=
    natAt_of_bytes (by rw [bytes_of_own h]; rfl) (by omega)
  have hbx : bitsOf 0 4 (natAt 22 2 r.bytes) = v.valid.x := by
    have := hx.1
    simp only [Triple.get] at this
    rw [hcounts, bitsOf]
    omega
  have hby : bitsOf 4 4 (natAt 22 2 r.bytes) = v.valid.y := by
    have := hy.1
    simp only [Triple.get] at this
    rw [hcounts, bitsOf]
    omega
  have hbz : bitsOf 8 4 (natAt 22 2 r.bytes) = v.valid.z := by
    have := hz.1
    simp only [Triple.get] at this
    rw [hcounts, bitsOf]
    omega
  refine ⟨by rw [valuesAt, hvx, hvy, hvz, hvt, hbx, hby, hbz], ?_⟩
  unfold Accepts
  rw [h0, h1, hmillis, hvx, hvy, hvz, hvt, hbx, hby, hbz]
  refine ⟨by rw [bitsOf]; omega, sourceStation_sourceByte _ hs, sourceRole_sourceByte _ hs, hm,
    valueAdmitted_of hx.1 hx.2, valueAdmitted_of hy.1 hy.2, valueAdmitted_of hz.1 hz.2, ?_⟩
  cases htemp : v.temperature with
  | none => rfl
  | some x => simpa [temperatureAdmitted] using ht x htemp

theorem peerRecord_own (h : r.body = .own v) (hs : r.station < 16) (hsec : r.seconds < 4294967296) (hm : r.millis ≤ 999)
    (hv : ∀ c : Comp, v.valid.get c ≤ 10 ∧ ∀ x, v.value.get c = some x → x.natAbs ≤ 400000000 ∧ v.valid.get c ≠ 0)
    (ht : ∀ x, v.temperature = some x → -5000 ≤ x ∧ x ≤ 7000) :
    peerRecord r.station r.role r.bytes = some { r with body := .peer v (asPeer r.bytes) } := by
  obtain ⟨hvalues, haccepts⟩ := accepts_own h hs hm hv ht
  have hcode := r.timebase.code_lt
  have htb : Timebase.ofCode (bitsOf 4 4 (natAt 0 1 r.bytes)) = some r.timebase := by
    rw [natAt_one_of_bytes (v := 0 + 16 * r.timebase.code) (by rw [bytes_of_own h]; rfl) (by omega),
      show bitsOf 4 4 (0 + 16 * r.timebase.code) = r.timebase.code by rw [bitsOf]; omega, Timebase.ofCode_code]
  have hflags := r.flags.toNat_lt
  rw [peerRecord_accepted htb haccepts, hvalues,
    natAt_of_bytes (v := r.seconds) (by rw [bytes_of_own h]; rfl) (by omega),
    natAt_of_bytes (v := r.millis) (by rw [bytes_of_own h]; rfl) (by omega),
    natAt_of_bytes (v := r.flags.toNat) (by rw [bytes_of_own h]; rfl) (by omega), RecordFlags.ofNat_toNat]

/-- The kind's low bits make way for PEER's. -/
theorem asPeer_own_toNat (p : Timebase) :
    (BitVec.ofNat 8 (0 + 16 * p.code) &&& 0xF0#8 ||| 0x01#8).toNat = 1 + 16 * p.code := by
  cases p <;> decide

end Own

/-! ## The bytes of a record that the node writes (R196) -/

/-- The first ten bytes of a written record, in parts. -/
structure HeaderSpec (r : Record) (b : List Byte) : Prop where
  length : b.length = 32
  kind : bytesAt 0 1 b = [BitVec.ofNat 8 (r.body.kindCode + 16 * r.timebase.code)]
  source : bytesAt 1 1 b = [sourceByte r.station r.role]
  seconds : bytesAt 2 4 b = leBytes 4 r.seconds
  millis : bytesAt 6 2 b = leBytes 2 r.millis
  flags : bytesAt 8 2 b = leBytes 2 r.flags.toNat

theorem bytes_written {r : Record} (h : ∀ v received, r.body ≠ .peer v received) : r.bytes = r.written := by
  unfold Record.bytes
  cases hb : r.body with
  | peer v received => exact absurd hb (h v received)
  | own v => rfl
  | check f g d => rfl
  | note n => rfl

theorem body_bytes_length (b : Body) : b.bytes.length = 22 := by
  cases b with
  | own v => rfl
  | peer v received => rfl
  | check f g d => rfl
  | note n => cases n <;> rfl

theorem header_of_written (r : Record) : HeaderSpec r r.written where
  length := by
    have := body_bytes_length r.body
    simp [Record.written, this]
  kind := rfl
  source := rfl
  seconds := rfl
  millis := rfl
  flags := rfl

theorem natAt_one {k : Nat} {b : Byte} {bs : List Byte} (h : bytesAt k 1 bs = [b]) : natAt k 1 bs = b.toNat := by
  rw [natAt, h]
  simp [leNat]

/-- A note's code, its component and its argument (R196). -/
def Note.code : Note → Nat
  | .reset _ => 0
  | .step _ => 1
  | .timebase _ => 2
  | .comp _ _ => 3
def Note.component : Note → Nat
  | .comp c _ => c.number
  | .reset _ | .step _ | .timebase _ => 0
def Note.argument : Note → Int
  | .reset c => c.code
  | .step c => c
  | .timebase p => p.code
  | .comp _ n => n

theorem note_bytes (n : Note) : (Body.note n).bytes =
    [BitVec.ofNat 8 n.code, BitVec.ofNat 8 n.component] ++ leBytes 8 n.argument ++ leBytes 12 0 := by
  cases n <;> rfl

theorem Note.component_lt (n : Note) : n.component < 3 := by
  unfold Note.component
  split
  case h_1 c _ => cases c <;> decide
  case h_2 => decide
  case h_3 => decide
  case h_4 => decide

theorem Note.code_lt (n : Note) : n.code < 4 := by
  unfold Note.code
  split <;> decide

theorem Body.kindCode_lt (b : Body) : b.kindCode < 4 := by
  unfold Body.kindCode
  split <;> decide

/-- What the bytes of a NOTE record hold behind the header. -/
theorem noteSpec_of_written {r : Record} {n : Note} (h : r.body = .note n) :
    -9223372036854775808 ≤ n.argument → n.argument ≤ 9223372036854775807 →
      natAt 10 1 r.written = n.code ∧ natAt 11 1 r.written = n.component ∧ intAt 12 8 r.written = n.argument ∧
        ∀ i, 20 ≤ i → i < 32 → r.written[i]? = some 0#8 := by
  intro hlo hhi
  have hc := n.code_lt
  have hp := n.component_lt
  rw [Record.written, h, note_bytes]
  refine ⟨natAt_one_of_bytes rfl (by omega), natAt_one_of_bytes rfl (by omega), intAt_of_bytes rfl (by omega) (by omega),
    fun i hi hi' => ?_⟩
  interval_cases i <;> rfl

/-- Settles O60: each part of a record, a frame and a window id as its bytes give it back. -/
theorem recordsAndFramesRoundTrip : Obligations.RecordsAndFramesRoundTrip := by
  refine ⟨fun r v h hs hsec hm hv ht => ?own, fun station role kind payload hs hlen =>
      ⟨sentChars_length rfl, frameComplete_sent hlen, checkPasses_sent hlen, fun n hn => ?cut, frameOf_sent hs hlen⟩,
    fun r hpeer hs hsec hm => ?bytes, by decide, fun i hs hq => ofByte_toByte hs hq, by decide +kernel⟩
  case own =>
    have hlength : r.bytes.length = 32 := by rw [bytes_of_own h]; rfl
    refine ⟨hlength, asPeer r.bytes, peerRecord_own h hs hsec hm hv ht, ?_⟩
    rw [bytes_of_own h]
    exact ⟨rfl, rfl, _, rfl, asPeer_own_toNat r.timebase⟩
  case cut =>
    rw [sentChars_length rfl] at hn
    exact frameComplete_cut hlen hn
  case bytes =>
    have hbytes := bytes_written hpeer
    obtain ⟨hlength, hkind, hsource, hseconds, hmillis, hflags⟩ := header_of_written r
    rw [← hbytes] at hlength hkind hsource hseconds hmillis hflags
    have hcode := r.timebase.code_lt
    have hkindCode := r.body.kindCode_lt
    have hlt := r.flags.toNat_lt
    dsimp only
    simp only [placed_eq_natAt, placedSigned_eq_intAt _ (show 0 < 4 by decide), placedSigned_eq_intAt _ (show 0 < 8 by decide)]
    refine ⟨hlength, ?kind, ?source, natAt_of_bytes hseconds (by omega), natAt_of_bytes hmillis (by omega),
      ?flags, fun f g d hbody hf hg hd => ?check, fun n hbody => ?note⟩
    case kind =>
      rw [natAt_one_of_bytes hkind (by omega)]
      exact congrArg₂ (· + ·) (by cases r.body <;> rfl) (by cases r.timebase <;> rfl)
    case source =>
      rw [natAt_one hsource, sourceByte_toNat r.role hs]
      exact congrArg (r.station + ·) (by cases r.role <;> rfl)
    case flags =>
      rw [natAt_of_bytes hflags (by omega)]
      rfl
    case check =>
      rw [hbytes, Record.written, hbody]
      refine ⟨intAt_of_bytes rfl (by omega) (by omega), intAt_of_bytes rfl (by omega) (by omega),
        intAt_of_bytes rfl (by omega) (by omega), fun i hi hi' => ?_⟩
      interval_cases i <;> rfl
    case note =>
      have hspec := noteSpec_of_written hbody
      rw [← hbytes] at hspec
      intro hhi hlo
      cases n with
      | step c => exact hspec hlo hhi
      | reset c => cases c <;> exact hspec hlo hhi
      | timebase p => cases p <;> exact hspec hlo hhi
      | comp c steps => cases c <;> exact hspec hlo hhi

end Sys2Proof.Machine
end

section
/-! A received BLOCK: the tests of its records, their commits, and the CHECK record behind a partner's. -/

namespace Sys2Proof.Machine

variable {s t : State}

/-! ## The tests of a record (R153) -/

theorem valueAdmitted_iff (k n : Nat) (bs : List Byte) : valueAdmitted (optionalAt k 4 absentValue bs) n = true ↔
    n ≤ 10 ∧ (intAt k 4 bs = -2147483648 ∨ (n ≠ 0 ∧ (intAt k 4 bs).natAbs ≤ 400000000)) := by
  unfold optionalAt absentValue
  by_cases h : intAt k 4 bs = -2147483648
  · rw [if_pos h]
    simp [valueAdmitted, h]
  · rw [if_neg h]
    simp [valueAdmitted, h]

theorem temperatureAdmitted_iff (k : Nat) (bs : List Byte) :
    temperatureAdmitted (optionalAt k 2 absentTemperature bs) = true ↔
      intAt k 2 bs = -32768 ∨ (-5000 ≤ intAt k 2 bs ∧ intAt k 2 bs ≤ 7000) := by
  unfold optionalAt absentTemperature
  by_cases h : intAt k 2 bs = -32768
  · rw [if_pos h]
    simp [temperatureAdmitted, h]
  · rw [if_neg h]
    simp [temperatureAdmitted, h]

theorem ofCode_eq_match (n : Nat) : Role.ofCode n =
    match n % 4 with | 0 => .vector | 1 => .scalar | 2 => .timing | _ => .logger := rfl

theorem natAt_one_getD (k : Nat) (bs : List Byte) : natAt k 1 bs = (bs.getD k 0).toNat := by
  rw [natAt_succ]
  rfl

theorem ofCode_of_le {n : Nat} (h : n / 16 ≤ 3) : Timebase.ofCode (bitsOf 4 4 n) =
    some (match n / 16 with | 0 => .free | 1 => .referenced | 2 => .agreed | _ => .holdover) := by
  have hn : bitsOf 4 4 n = n / 16 := by
    rw [bitsOf]
    omega
  rw [hn]
  generalize n / 16 = m at h
  interval_cases m <;> rfl

theorem ofCode_of_gt {n : Nat} (hn : n < 256) (h : ¬ n / 16 ≤ 3) : Timebase.ofCode (bitsOf 4 4 n) = none := by
  have hm : bitsOf 4 4 n = n / 16 := by
    rw [bitsOf]
    omega
  have hlt : n / 16 < 16 := by omega
  rw [hm]
  generalize n / 16 = m at h hlt
  interval_cases m <;> rfl

theorem asPeer_eq {bs : List Byte} (hlen : bs.length = 32) (h : natAt 0 1 bs % 16 = 0) :
    asPeer bs = BitVec.ofNat 8 (natAt 0 1 bs + 1) :: bs.tail := by
  obtain ⟨b, bs, rfl⟩ := List.exists_cons_of_length_eq_add_one hlen
  rw [natAt_one_getD] at h ⊢
  have hb : ∀ b : Byte, b.toNat % 16 = 0 → b &&& 0xF0#8 ||| 0x01#8 = BitVec.ofNat 8 (b.toNat + 1) := by decide
  exact congrArg (· :: bs) (hb b h)

/-- The tests with each number written out. -/
theorem accepts_iff (station : Nat) (role : Role) (bs : List Byte) : Accepts station role bs ↔
    natAt 0 1 bs % 16 = 0 ∧ natAt 1 1 bs % 16 = station ∧ Role.ofCode (natAt 1 1 bs / 16) = role ∧ natAt 6 2 bs ≤ 999 ∧
      (∀ i < 3, natAt 22 2 bs / 16 ^ i % 16 ≤ 10 ∧ (intAt (10 + 4 * i) 4 bs = -2147483648 ∨
        (natAt 22 2 bs / 16 ^ i % 16 ≠ 0 ∧ (intAt (10 + 4 * i) 4 bs).natAbs ≤ 400000000))) ∧
      (intAt 24 2 bs = -32768 ∨ (-5000 ≤ intAt 24 2 bs ∧ intAt 24 2 bs ≤ 7000)) := by
  have hthree : ∀ p : Nat → Prop, (∀ i < 3, p i) ↔ p 0 ∧ p 1 ∧ p 2 := fun p =>
    ⟨fun h => ⟨h 0 (by decide), h 1 (by decide), h 2 (by decide)⟩, fun ⟨h0, h1, h2⟩ i hi => by
      interval_cases i
      · exact h0
      · exact h1
      · exact h2⟩
  have hrole : sourceRole (bs.getD 1 0) = Role.ofCode (natAt 1 1 bs / 16) := by
    rw [natAt_one_getD, sourceRole, bitsOf, ofCode_eq_match, ofCode_eq_match]
    congr 1
    omega
  have hstation : sourceStation (bs.getD 1 0) = natAt 1 1 bs % 16 := by
    rw [natAt_one_getD, sourceStation, bitsOf]
    omega
  unfold Accepts
  rw [hthree, valueAdmitted_iff, valueAdmitted_iff, valueAdmitted_iff, temperatureAdmitted_iff, hrole, hstation]
  simp only [bitsOf, Nat.reducePow, Nat.reduceMul, Nat.reduceAdd, Nat.div_one, and_assoc]

theorem ofNat_eq_testBit (v : Nat) : RecordFlags.ofNat v =
    { stepped := v.testBit 0, blanked := v.testBit 1, partly := v.testBit 2, saturated := v.testBit 3
      tableEdge := v.testBit 4, tempHeld := v.testBit 5, tempStale := v.testBit 6, noTemp := v.testBit 7
      disturbed := v.testBit 8, skipped := v.testBit 9, missing := v.testBit 10 } := by
  simp only [RecordFlags.ofNat, bitSet_eq_testBit]

theorem valuesAt_eq (bs : List Byte) :
    let given (i : Nat) : Option Int :=
      if intAt (10 + 4 * i) 4 bs = -2147483648 then none else some (intAt (10 + 4 * i) 4 bs)
    let count (i : Nat) : Nat := natAt 22 2 bs / 16 ^ i % 16
    valuesAt bs =
      { value := ⟨given 0, given 1, given 2⟩, valid := ⟨count 0, count 1, count 2⟩
        temperature := if intAt 24 2 bs = -32768 then none else some (intAt 24 2 bs) } := rfl

/-- A record that passes the tests, each number at its place. -/
theorem peerRecord_passes {station : Nat} {role : Role} {bs : List Byte} (hlen : bs.length = 32)
    (h : Accepts station role bs) (htb : natAt 0 1 bs / 16 ≤ 3) : peerRecord station role bs = some
      { station := station, role := role, seconds := natAt 2 4 bs, millis := natAt 6 2 bs
        timebase := match natAt 0 1 bs / 16 with | 0 => .free | 1 => .referenced | 2 => .agreed | _ => .holdover
        flags := RecordFlags.ofNat (natAt 8 2 bs)
        body := .peer (valuesAt bs) (BitVec.ofNat 8 (natAt 0 1 bs + 1) :: bs.tail) } := by
  rw [peerRecord_accepted (ofCode_of_le htb) h, asPeer_eq hlen ((accepts_iff _ _ _).mp h).1]

/-! ## The partner's record (R142 to R144) -/

/-- The F_s of a PEER record and the entry of the buffer at its second. -/
def matchOf (s : State) (p : Record) : Option (Int × Nat × Nat) :=
  (partnerField s.cfg p).bind fun fs =>
    (s.corr.recentF.find? fun e => decide (e.1 = nearestSecond p)).map fun e => (fs, e)

theorem matchOf_eq (s : State) (p : Record) : matchOf s p =
    match p.body with
    | .peer v _ =>
      if s.cfg.role = .vector ∧ s.cfg.partner = some p.station ∧ p.role = .scalar ∧ p.flags.disturbed = false then
        v.value.x.bind fun fs => (s.corr.recentF.find? fun e => decide (e.1 = nearestSecond p)).map fun e => (fs, e)
      else none
    | .own _ | .check _ _ _ | .note _ => none := by
  unfold matchOf partnerField
  by_cases h : s.cfg.role = .vector ∧ s.cfg.partner = some p.station ∧ p.role = .scalar ∧ p.flags.disturbed = false
  · simp only [if_pos h]
    cases p.body <;> rfl
  · simp only [if_neg h]
    cases p.body <;> rfl

/-- The CHECK record of a match. -/
def checkOf (s : State) (m : Int × Nat × Nat) : Record := checkRecord s m.2.1 m.1 m.2.2

/-- The run count after matches. -/
def runOf (limit n : Nat) (ms : List (Int × Nat × Nat)) : Nat := ms.foldl (fun n m => runAfter limit (m.1 - m.2.2) n) n

theorem checkPeer_of_none {p : Record} (h : matchOf s p = none) : checkPeer p s = s := by
  unfold matchOf at h
  unfold checkPeer
  cases hf : partnerField s.cfg p with
  | none => rfl
  | some fs =>
    rw [hf, Option.bind_some, Option.map_eq_none_iff] at h
    dsimp only
    rw [h]

theorem checkPeer_of_some {p : Record} {m : Int × Nat × Nat} (h : matchOf s p = some m)
    (hroom : s.ring.records.length < 16384) : checkPeer p s =
      setFlagIf (decide (runAfter s.cfg.deltaLimit (m.1 - m.2.2) s.corr.runCount = 3)) .deltaF
        ((s.withRing { s.ring with records := s.ring.records ++ [checkOf s m] }).withCorr
          { s.corr with runCount := runAfter s.cfg.deltaLimit (m.1 - m.2.2) s.corr.runCount }) := by
  unfold matchOf at h
  obtain ⟨fs, hfs, hfind⟩ := Option.bind_eq_some_iff.mp h
  obtain ⟨e, he, rfl⟩ := Option.map_eq_some_iff.mp hfind
  unfold checkPeer
  rw [hfs]
  dsimp only
  rw [he]
  dsimp only
  rw [commit_of_room _ hroom]
  rfl

/-! ## The records of a BLOCK, one by one -/

/-- A staged record that passed the tests is committed and handed on for the check. -/
def takePeer (s : State) (p : Record) : State := checkPeer p (commit p s)

theorem takeBlock_fold (station : Nat) (role : Role) (bss : List (List Byte)) (s : State) :
    bss.foldl (fun s bs => commitPeer station role bs s) s = (bss.filterMap (peerRecord station role)).foldl takePeer s := by
  rw [List.foldl_filterMap]
  congr 1
  funext s bs
  unfold commitPeer
  cases peerRecord station role bs <;> rfl

/-- What taking PEER records leaves, in a ring with room for them and their CHECKs. -/
structure PeersTaken (ps : List Record) (s t : State) : Prop where
  ring : t.ring = { s.ring with
    records := s.ring.records ++ ps.flatMap fun p => p :: ((matchOf s p).map (checkOf s)).toList }
  corr : t.corr = { s.corr with runCount := runOf s.cfg.deltaLimit s.corr.runCount (ps.filterMap (matchOf s)) }
  flag : flagIsSet .deltaF t = true ↔ flagIsSet .deltaF s = true ∨
    ∃ k, 1 ≤ k ∧ k ≤ (ps.filterMap (matchOf s)).length ∧
      runOf s.cfg.deltaLimit s.corr.runCount ((ps.filterMap (matchOf s)).take k) = 3
  env : t.env = s.env
  ref : t.ref = s.ref
  agr : t.agr = s.agr
  win : t.win = s.win
  acq : t.acq = s.acq
  line : t.line.butState = s.line.butState

theorem peersTaken_nil (s : State) : PeersTaken [] s s where
  ring := by simp
  corr := rfl
  flag := by
    constructor
    · exact Or.inl
    · rintro (h | ⟨k, hk, hk', -⟩)
      · exact h
      · simp at hk'
        omega
  env := rfl
  ref := rfl
  agr := rfl
  win := rfl
  acq := rfl
  line := rfl

/-- The matches and their CHECKs depend on no more than taking a record keeps. -/
theorem matchOf_congr (henv : t.env = s.env) (hf : t.corr.recentF = s.corr.recentF) : matchOf t = matchOf s := by
  funext p
  rw [matchOf, matchOf, cfg_of_env henv, hf]

theorem checkOf_congr (henv : t.env = s.env) : checkOf t = checkOf s := by
  funext m
  rw [checkOf, checkOf, checkRecord, checkRecord, cfg_of_env henv, clock_of_env henv]

theorem peersTaken_one (p : Record) (hroom : s.ring.records.length + 2 ≤ 16384) : PeersTaken [p] s (takePeer s p) := by
  have hcommit : commit p s = s.withRing { s.ring with records := s.ring.records ++ [p] } :=
    commit_of_room p (by omega)
  have hmatch : matchOf (commit p s) p = matchOf s p := by rw [hcommit]; rfl
  unfold takePeer
  cases hm : matchOf s p with
  | none =>
    rw [hm] at hmatch
    rw [checkPeer_of_none hmatch, hcommit]
    have hnone : [p].filterMap (matchOf s) = [] := by simp [hm]
    constructor
    case ring => simp [hm]
    case corr => rw [hnone]; rfl
    case flag =>
      rw [hnone]
      constructor
      · exact Or.inl
      · rintro (h | ⟨k, hk, hk', -⟩)
        · exact h
        · simp at hk'
          omega
    all_goals rfl
  | some m =>
    rw [hm] at hmatch
    rw [checkPeer_of_some hmatch (by rw [hcommit, State.withRing_ring, List.length_append]; simp; omega), hcommit]
    have hsome : [p].filterMap (matchOf s) = [m] := by simp [hm]
    constructor
    case ring =>
      rw [setFlagIf_ring]
      simp [hm]
      rfl
    case corr => rw [setFlagIf_corr, hsome]; rfl
    case flag =>
      rw [flagIsSet_setFlagIf, hsome]
      refine or_congr Iff.rfl ⟨fun ⟨h, _⟩ => ⟨1, le_refl 1, le_refl 1, decide_eq_true_iff.mp h⟩, ?_⟩
      rintro ⟨k, hk, hk', hrun⟩
      obtain rfl : k = 1 := le_antisymm hk' hk
      exact ⟨decide_eq_true hrun, rfl⟩
    case env => rw [setFlagIf_env]; rfl
    case ref => rw [setFlagIf_ref]; rfl
    case agr => rw [setFlagIf_agr]; rfl
    case win => rw [setFlagIf_win]; rfl
    case acq => rw [setFlagIf_acq]; rfl
    case line => rw [setFlagIf_line]; rfl

theorem runOf_append (limit n : Nat) (ms ms' : List (Int × Nat × Nat)) :
    runOf limit n (ms ++ ms') = runOf limit (runOf limit n ms) ms' := List.foldl_append

/-- A run reaches 3 within the matches of two lists when it does within the first, or goes on to it in the second. -/
theorem exists_run_append (limit n : Nat) (ms ms' : List (Int × Nat × Nat)) :
    (∃ k, 1 ≤ k ∧ k ≤ (ms ++ ms').length ∧ runOf limit n ((ms ++ ms').take k) = 3) ↔
      (∃ k, 1 ≤ k ∧ k ≤ ms.length ∧ runOf limit n (ms.take k) = 3) ∨
        ∃ k, 1 ≤ k ∧ k ≤ ms'.length ∧ runOf limit (runOf limit n ms) (ms'.take k) = 3 := by
  constructor
  · rintro ⟨k, hk, hk', hrun⟩
    rw [List.length_append] at hk'
    by_cases h : k ≤ ms.length
    · rw [List.take_append_of_le_length h] at hrun
      exact Or.inl ⟨k, hk, h, hrun⟩
    · rw [List.take_append, List.take_of_length_le (by omega), runOf_append] at hrun
      exact Or.inr ⟨k - ms.length, by omega, by omega, hrun⟩
  · rintro (⟨k, hk, hk', hrun⟩ | ⟨k, hk, hk', hrun⟩)
    · refine ⟨k, hk, by rw [List.length_append]; omega, ?_⟩
      rw [List.take_append_of_le_length hk', hrun]
    · refine ⟨ms.length + k, by omega, by rw [List.length_append]; omega, ?_⟩
      rw [List.take_append, List.take_of_length_le (by omega), runOf_append, Nat.add_sub_cancel_left, hrun]

theorem PeersTaken.append {ps qs : List Record} {u : State} (h : PeersTaken ps s t) (h' : PeersTaken qs t u) :
    PeersTaken (ps ++ qs) s u := by
  have hm := matchOf_congr h.env (by rw [h.corr])
  have hc := checkOf_congr h.env
  have hcfg := cfg_of_env h.env
  have hrun : t.corr.runCount = _ := congrArg Correction.runCount h.corr
  obtain ⟨hring', hcorr', hflag', henv', href', hagr', hwin', hacq', hline'⟩ := h'
  rw [hm, hc, h.ring] at hring'
  rw [hm, hcfg, hrun, h.corr] at hcorr'
  rw [hm, hcfg, hrun, h.flag] at hflag'
  refine ⟨?_, ?_, ?_, henv'.trans h.env, href'.trans h.ref, hagr'.trans h.agr, hwin'.trans h.win, hacq'.trans h.acq,
    hline'.trans h.line⟩
  · rw [hring', List.flatMap_append, List.append_assoc]
  · rw [hcorr', List.filterMap_append, runOf_append]
  · rw [hflag', List.filterMap_append, exists_run_append, or_assoc]

theorem peersTaken_fold (ps : List Record) (hroom : s.ring.records.length + 2 * ps.length ≤ 16384) :
    PeersTaken ps s (ps.foldl takePeer s) := by
  induction ps generalizing s with
  | nil => exact peersTaken_nil s
  | cons p ps ih =>
    rw [List.length_cons] at hroom
    have hone := peersTaken_one (s := s) p (by omega)
    refine PeersTaken.append (ps := [p]) hone (ih ?_)
    have hlen : (takePeer s p).ring.records.length ≤ s.ring.records.length + 2 := by
      rw [hone.ring]
      cases matchOf s p <;> simp
    omega

/-- Records of stations other than the check partner are committed and nothing more. -/
theorem takePeers_of_others (ps : List Record) (hroom : s.ring.records.length + ps.length ≤ 16384)
    (h : ∀ p ∈ ps, s.cfg.partner ≠ some p.station) :
    ps.foldl takePeer s = s.withRing { s.ring with records := s.ring.records ++ ps } := by
  induction ps generalizing s with
  | nil => simp [State.withRing]
  | cons p ps ih =>
    rw [List.length_cons] at hroom
    have hpartner := h p List.mem_cons_self
    have hone : takePeer s p = s.withRing { s.ring with records := s.ring.records ++ [p] } := by
      unfold takePeer
      rw [commit_of_room p (by omega)]
      refine checkPeer_of_none ?_
      unfold matchOf partnerField
      rw [State.withRing_cfg, if_neg (fun hp => hpartner hp.2.1)]
      rfl
    rw [List.foldl_cons, hone]
    refine (ih ?_ ?_).trans ?_
    · rw [State.withRing_ring, List.length_append, List.length_singleton]
      omega
    · exact fun q hq => h q (List.mem_cons_of_mem p hq)
    · rw [State.withRing_ring, List.append_assoc]
      rfl

/-! ## The BLOCK (R75, R154) -/

/-- The PEER records of a BLOCK, those that the tests discard left out. -/
def peersOf (r : Reception) : List Record :=
  (blockRecords (payloadOf r)).filterMap (peerRecord (senderOf r) (frameOf r.chars).role)

theorem peersOf_eq (r : Reception) : peersOf r = (List.range (((payloadOf r).length - 1) / 32)).filterMap fun i =>
    peerRecord (senderOf r) (frameOf r.chars).role (((payloadOf r).drop (1 + 32 * i)).take 32) := by
  unfold peersOf blockRecords
  rw [List.filterMap_map]
  rfl

theorem peersOf_length {r : Reception} (h : (payloadOf r).length ∈ [33, 65, 97, 129, 161, 193]) :
    (peersOf r).length ≤ 6 := by
  rw [peersOf_eq]
  refine (List.length_filterMap_le _ _).trans ?_
  rw [List.length_range]
  simp only [List.mem_cons, List.not_mem_nil, or_false] at h
  omega

theorem station_of_mem_peersOf {r : Reception} {p : Record} (h : p ∈ peersOf r) : p.station = senderOf r := by
  obtain ⟨bs, -, hp⟩ := List.mem_filterMap.mp h
  unfold peerRecord at hp
  dsimp only at hp
  split at hp
  · exact absurd hp nofun
  · split at hp
    · exact (congrArg Record.station (Option.some.inj hp)).symm
    · exact absurd hp nofun

theorem takeBlock_ignored {f : Frame} (h : s.cfg.listen.getLsbD f.station = false ∨
    (f.payload.getD 0 0).getLsbD 0 = true ∨ f.payload.length ∉ [33, 65, 97, 129, 161, 193]) : takeBlock f s = s := by
  refine if_neg fun htaken => ?_
  rw [Bool.and_eq_true, Bool.and_eq_true, Bool.not_eq_true'] at htaken
  obtain ⟨⟨hlisten, hrecalled⟩, hlen⟩ := htaken
  obtain h | h | h := h
  · exact Bool.false_ne_true (h.symm.trans hlisten)
  · exact Bool.false_ne_true (hrecalled.symm.trans h)
  · exact h (decide_eq_true_iff.mp hlen)

theorem takeBlock_taken {r : Reception} (h : ¬ (s.cfg.listen.getLsbD (senderOf r) = false ∨
    ((payloadOf r).getD 0 0).getLsbD 0 = true ∨ (payloadOf r).length ∉ [33, 65, 97, 129, 161, 193])) :
    takeBlock (frameOf r.chars) s = (peersOf r).foldl takePeer s := by
  simp only [not_or, Bool.not_eq_false, Bool.not_eq_true, not_not] at h
  obtain ⟨hlisten, hrecalled, hlen⟩ := h
  unfold takeBlock
  rw [if_pos, takeBlock_fold]
  · rfl
  · rw [Bool.and_eq_true, Bool.and_eq_true, Bool.not_eq_true']
    exact ⟨⟨hlisten, hrecalled⟩, decide_eq_true hlen⟩

theorem line_of_butState {l l' : LineUnit} (h : l.butState = l'.butState) : l = { l' with stateSlot := l.stateSlot } := by
  show { l.butState with stateSlot := l.stateSlot } = _
  rw [h]
  rfl

/-- Settles O35: what a BLOCK's records leave in order, the tests, and the CHECK. -/
theorem blockReceivedIsStaged : Obligations.BlockReceivedIsStaged := by
  refine ⟨fun r s h hkind hs => ?block, fun station role bs hlen => ?tests, fun p s hnot => ?unchecked,
    fun p v bs fs e s hrole hpartner hscalar hdisturbed hbody hx hfind hroom => ?checked⟩
  case block =>
    have hexec : exec .blockReceived s = .next (takeBlock (frameOf r.chars) (ended s)) :=
      congrArg Host.Outcome.next (commitFrame_other h (isKind_of_eq hkind) hs)
    refine ⟨fun hignored => ?_, fun htaken hpartner hroom => ?_, fun htaken hroom => ?_⟩
    · rw [hexec]
      exact congrArg Host.Outcome.next (takeBlock_ignored hignored)
    · have hlen : (payloadOf r).length ∈ [33, 65, 97, 129, 161, 193] := not_not.mp fun h => htaken (Or.inr (Or.inr h))
      have h6 := peersOf_length hlen
      rw [hexec, takeBlock_taken (s := ended s) htaken, takePeers_of_others (s := ended s), peersOf_eq]
      · rfl
      · show s.ring.records.length + _ ≤ _
        omega
      · intro p hp
        rw [station_of_mem_peersOf hp]
        exact hpartner
    · have hlen : (payloadOf r).length ∈ [33, 65, 97, 129, 161, 193] := not_not.mp fun h => htaken (Or.inr (Or.inr h))
      have h6 := peersOf_length hlen
      intro peers match' check run matches'
      have hm : match' = matchOf (ended s) := by
        funext p
        exact (matchOf_eq (ended s) p).symm
      have hc : check = checkOf (ended s) := rfl
      have hp : peers = peersOf r := (peersOf_eq r).symm
      have htaken' := peersTaken_fold (s := ended s) (peersOf r) (by show s.ring.records.length + _ ≤ _; omega)
      rw [← hp] at htaken'
      obtain ⟨hring, hcorr, hflag, henv, href, hagr, hwin, hacq, hline⟩ := htaken'
      rw [← hm, ← hc] at hring
      rw [← hm] at hcorr hflag
      refine ⟨_, by rw [hexec, takeBlock_taken (s := ended s) htaken, ← hp], hring, hcorr, hflag, clock_of_env henv, href,
        hagr, hwin, hacq, cfg_of_env henv, line_of_butState hline⟩
  case tests =>
    dsimp only
    simp only [placed_eq_natAt, placedSigned_eq_intAt _ (show 0 < 4 by decide), placedSigned_eq_intAt _ (show 0 < 2 by decide)]
    refine ⟨fun hnot => peerRecord_discarded ?_, fun hpasses => ?_⟩
    · by_cases htb : natAt 0 1 bs / 16 ≤ 3
      · refine Or.inr fun h => hnot ?_
        obtain ⟨h0, hstation, hrole, hrest⟩ := (accepts_iff _ _ _).mp h
        exact ⟨h0, hstation, hrole, htb, hrest⟩
      · exact Or.inl (ofCode_of_gt (natAt_lt 0 1 bs) htb)
    · obtain ⟨h0, hstation, hrole, htb, hrest⟩ := hpasses
      rw [peerRecord_passes hlen ((accepts_iff _ _ _).mpr ⟨h0, hstation, hrole, hrest⟩) htb]
      rw [ofNat_eq_testBit, valuesAt_eq] <;> rfl
  case unchecked =>
    refine checkPeer_of_none ?_
    rw [matchOf_eq]
    cases hbody : p.body with
    | own v => rfl
    | check f g d => rfl
    | note n => rfl
    | peer v bs =>
      dsimp only
      by_cases hpartner : s.cfg.role = .vector ∧ s.cfg.partner = some p.station ∧ p.role = .scalar ∧ p.flags.disturbed = false
      · rw [if_pos hpartner]
        obtain ⟨hrole, hstation, hscalar, hdisturbed⟩ := hpartner
        obtain h | h | h | h | h | h := hnot
        · exact absurd hrole h
        · exact absurd hstation h
        · exact absurd hscalar h
        · exact absurd (hdisturbed.symm.trans h) Bool.false_ne_true
        · rw [h v bs hbody]
          rfl
        · have hfind : s.corr.recentF.find? (fun e => decide (e.1 = nearestSecond p)) = none :=
            List.find?_eq_none.mpr fun e he => by rw [decide_eq_true_iff]; exact h e he
          rw [hfind]
          cases v.value.x <;> rfl
      · rw [if_neg hpartner]
  case checked =>
    have hmatch : matchOf s p = some (fs, e) := by
      rw [matchOf_eq, hbody]
      dsimp only
      rw [if_pos ⟨hrole, hpartner, hscalar, hdisturbed⟩, hx]
      exact congrArg (Option.map fun e => (fs, e)) hfind
    rw [checkPeer_of_some hmatch hroom]
    exact if_congr decide_eq_true_iff rfl rfl

end Sys2Proof.Machine
end

section
/-! The window queue, the blanking list and the held windows. -/

namespace Sys2Proof.Machine

variable {s t : State}

/-! ## The first element of a kind -/

theorem find?_first {α : Type} {p : α → Bool} {before behind : List α} {x : α} (hx : p x = true)
    (hb : ∀ q ∈ before, p q = false) : (before ++ x :: behind).find? p = some x := by
  rw [List.find?_append, List.find?_eq_none.mpr fun q hq => by rw [hb q hq]; exact Bool.false_ne_true, Option.none_or,
    List.find?_cons_of_pos hx]

theorem eraseP_first {α : Type} {p : α → Bool} {before behind : List α} {x : α} (hx : p x = true)
    (hb : ∀ q ∈ before, p q = false) : (before ++ x :: behind).eraseP p = before ++ behind := by
  rw [List.eraseP_append_right _ fun q hq => by rw [hb q hq]; exact Bool.false_ne_true, List.eraseP_cons_of_pos hx]

/-! ## The blanking list (R98, R100) -/

/-- An entry takes its place behind the entries of no later start. -/
theorem insertEntry_place (w : Entry) (l : List Entry) : ∃ l1 l2, l = l1 ++ l2 ∧
    (∀ e ∈ l1, later e.start w.start = false) ∧ (∀ e, l2.head? = some e → later e.start w.start = true) ∧
    insertEntry w l = l1 ++ w :: l2 := by
  induction l with
  | nil => exact ⟨[], [], rfl, nofun, nofun, rfl⟩
  | cons e es ih =>
    by_cases h : later e.start w.start = true
    · exact ⟨[], e :: es, rfl, nofun, fun x hx => Option.some.inj hx ▸ h, if_pos h⟩
    · obtain ⟨l1, l2, hes, hl1, hl2, hinsert⟩ := ih
      refine ⟨e :: l1, l2, congrArg (e :: ·) hes, fun x hx => ?_, hl2, (if_neg h).trans (congrArg (e :: ·) hinsert)⟩
      obtain rfl | hx := List.mem_cons.mp hx
      · exact Bool.eq_false_iff.mpr h
      · exact hl1 x hx

theorem enterWindow_room {w : Entry} (h : (without w.id s.win.list).length < 8) :
    enterWindow w s = s.withWin { s.win with list := insertEntry w (without w.id s.win.list) } := if_pos h

theorem enterWindow_held {w : Entry} (h : 8 ≤ (without w.id s.win.list).length) (hh : s.win.held.length < 4) :
    enterWindow w s = setFlag .listFull (s.withWin { s.win with held := s.win.held ++ [w] }) :=
  (if_neg (Nat.not_lt.mpr h)).trans (if_pos hh)

theorem enterWindow_blankAll {w : Entry} (h : 8 ≤ (without w.id s.win.list).length) (hh : 4 ≤ s.win.held.length) :
    enterWindow w s = setFlag .listFull
      (s.withWin { s.win with blankAllEnd := some (extendEnd w.finish s.win.blankAllEnd) }) :=
  (if_neg (Nat.not_lt.mpr h)).trans (if_neg (Nat.not_lt.mpr hh))

/-! ## The window queue (R71, R72) -/

theorem idleDefer_iff (q : Queued) : q.idleDefer = true ↔
    q.inAttempt = false ∧ ∃ w lead e g m, q.frame = .defer w lead e g m := by
  unfold Queued.idleDefer
  cases q.frame <;> simp

theorem idleWithdraw_iff (q : Queued) : q.idleWithdraw = true ↔
    q.inAttempt = false ∧ ∃ id start, q.frame = .withdraw id start := by
  unfold Queued.idleWithdraw
  cases q.frame <;> simp

theorem idleDefer_eq_false {q : Queued} (h : q.inAttempt = true ∨ ∀ w lead e g m, q.frame ≠ .defer w lead e g m) :
    q.idleDefer = false := by
  rw [Bool.eq_false_iff, ne_eq, idleDefer_iff]
  rintro ⟨hin, w, lead, e, g, m, hq⟩
  obtain h | h := h
  · exact Bool.false_ne_true (hin.symm.trans h)
  · exact h w lead e g m hq

theorem idleWithdraw_eq_false {q : Queued} (h : q.inAttempt = true ∨ ∀ id start, q.frame ≠ .withdraw id start) :
    q.idleWithdraw = false := by
  rw [Bool.eq_false_iff, ne_eq, idleWithdraw_iff]
  rintro ⟨hin, id, start, hq⟩
  obtain h | h := h
  · exact Bool.false_ne_true (hin.symm.trans h)
  · exact h id start hq

/-- A frame that has just been handed over. -/
def Queued.fresh (f : WinFrame) : Queued := { frame := f, failures := 0, inAttempt := false }

theorem joinQueue_room (f : WinFrame) (h : s.line.queue.length < 4) :
    joinQueue f s = s.withLine { s.line with queue := s.line.queue ++ [Queued.fresh f] } := if_pos h

theorem joinQueue_defer (f : WinFrame) {d : Queued} (h : 4 ≤ s.line.queue.length)
    (hd : s.line.queue.find? Queued.idleDefer = some d) : joinQueue f s = deferLost d.frame
      (s.withLine { s.line with queue := s.line.queue.eraseP Queued.idleDefer ++ [Queued.fresh f] }) := by
  unfold joinQueue
  dsimp only
  rw [if_neg (Nat.not_lt.mpr h), hd]
  rfl

theorem joinQueue_withdraw (f : WinFrame) {d : Queued} (h : 4 ≤ s.line.queue.length)
    (hnone : s.line.queue.find? Queued.idleDefer = none) (hd : s.line.queue.find? Queued.idleWithdraw = some d) :
    joinQueue f s =
      s.withLine { s.line with queue := s.line.queue.eraseP Queued.idleWithdraw ++ [Queued.fresh f] } := by
  unfold joinQueue
  dsimp only
  rw [if_neg (Nat.not_lt.mpr h), hnone]
  dsimp only
  rw [hd]
  rfl

theorem deferDue_eq_false {q : Queued} (h : q.inAttempt = true ∨
    ∀ w lead e g m, q.frame = .defer w lead e g m → s.tick < lead + 500000) : q.deferDue s = false := by
  unfold Queued.deferDue
  rw [Bool.and_eq_false_iff]
  obtain h | h := h
  · exact Or.inl (idleDefer_eq_false (Or.inl h))
  · by_cases hd : q.idleDefer = true
    · obtain ⟨-, w, lead, e, g, m, hq⟩ := (idleDefer_iff q).mp hd
      refine Or.inr ?_
      rw [hq]
      exact decide_eq_false (Nat.not_le.mpr (h w lead e g m hq))
    · exact Or.inl (Bool.eq_false_iff.mpr hd)

theorem deferDeadline_due {q : Queued} (hrun : s.running = true)
    (h : s.line.queue.find? (Queued.deferDue s) = some q) : exec .deferDeadline s = .next
      (deferLost q.frame (s.withLine { s.line with queue := s.line.queue.eraseP (Queued.deferDue s) })) := by
  show execDeferDeadline s = _
  unfold execDeferDeadline
  rw [if_pos hrun, h]

/-- Settles O43: the entered window, the marks, the queue's hand-over, and the DEFER at its deadline. -/
theorem windowsAreEntered : Obligations.WindowsAreEntered := by
  refine ⟨fun w s => ⟨fun h => ?place, enterWindow_held, fun h hh => ?blankAll⟩, fun w s => rfl,
    fun f s => ⟨joinQueue_room f, fun w lead e g m n before behind h hq hb => ?defer,
      fun id start n before behind h hq hd hb => ?withdraw⟩,
    fun w lead e g m n before behind s hrun hq hb hdue => ?deadline⟩
  case place =>
    obtain ⟨l1, l2, hl, hl1, hl2, hinsert⟩ := insertEntry_place w (without w.id s.win.list)
    refine ⟨l1, l2, hl, hl1, hl2, ?_⟩
    rw [enterWindow_room h, hinsert]
    rfl
  case blankAll =>
    rw [enterWindow_blankAll h hh]
    cases s.win.blankAllEnd <;> rfl
  case defer =>
    have hx : Queued.idleDefer { frame := .defer w lead e g m, failures := n, inAttempt := false } = true := rfl
    have hbefore : ∀ q ∈ before, q.idleDefer = false := fun q hq => idleDefer_eq_false (hb q hq)
    rw [joinQueue_defer f h (by rw [hq]; exact find?_first hx hbefore), hq, eraseP_first hx hbefore, deferLost_eq]
    rfl
  case withdraw =>
    have hx : Queued.idleWithdraw { frame := .withdraw id start, failures := n, inAttempt := false } = true := rfl
    have hbefore : ∀ q ∈ before, q.idleWithdraw = false := fun q hq => idleWithdraw_eq_false (hb q hq)
    have hnone : s.line.queue.find? Queued.idleDefer = none :=
      List.find?_eq_none.mpr fun q hq => by rw [idleDefer_eq_false (hd q hq)]; exact Bool.false_ne_true
    rw [joinQueue_withdraw f h hnone (by rw [hq]; exact find?_first hx hbefore), hq, eraseP_first hx hbefore]
    rfl
  case deadline =>
    have hx : Queued.deferDue s { frame := .defer w lead e g m, failures := n, inAttempt := false } = true := by
      simp [Queued.deferDue, Queued.idleDefer, removedByCollision, hdue]
    have hbefore : ∀ q ∈ before, q.deferDue s = false := fun q hq => deferDue_eq_false (hb q hq)
    rw [deferDeadline_due hrun (by rw [hq]; exact find?_first hx hbefore), hq, eraseP_first hx hbefore, deferLost_eq]
    exact ⟨fun hm => congrArg Host.Outcome.next (if_pos hm),
      fun hm => congrArg Host.Outcome.next (if_neg (by rw [hm]; exact Bool.false_ne_true))⟩

end Sys2Proof.Machine
end

section
/-! What leaves the blanking list and the held windows, and the grant of the own window. -/

namespace Sys2Proof.Machine

variable {s t : State}

/-! ## Places that become free (R98, R99, R100) -/

theorem without_of_absent {id : WinId} {l : List Entry} (h : ∀ e ∈ l, e.id ≠ id) : without id l = l :=
  List.filter_eq_self.mpr fun e he => decide_eq_true (h e he)

theorem mem_without {id : WinId} {l : List Entry} {e : Entry} : e ∈ without id l ↔ e ∈ l ∧ e.id ≠ id := by
  unfold without
  rw [List.mem_filter, decide_eq_true_iff]

theorem carries_iff {id : WinId} {l : List Entry} : carries id l = true ↔ ∃ e ∈ l, e.id = id := by
  simp [carries]

theorem freePlace_nil {reading : NodeTime} {w : WindowUnit}
    (h : (w.held.filter fun e => later e.finish reading) = []) : freePlace reading w = { w with held := [] } := by
  unfold freePlace
  rw [h]

theorem freePlace_cons {reading : NodeTime} {w : WindowUnit} {e : Entry} {es : List Entry}
    (h : (w.held.filter fun e => later e.finish reading) = e :: es) : freePlace reading w =
      if (without e.id w.list).length < 8 then { w with held := es, list := insertEntry e (without e.id w.list) }
      else { w with held := e :: es } := by
  unfold freePlace
  rw [h]

/-- The windows after a place has become free are among those before. -/
theorem mem_freePlace {reading : NodeTime} {w : WindowUnit} {x : Entry}
    (h : x ∈ (freePlace reading w).list ++ (freePlace reading w).held) : x ∈ w.list ++ w.held := by
  have hsub : ∀ y, y ∈ w.held.filter (fun e => later e.finish reading) → y ∈ w.held := fun y hy =>
    (List.mem_filter.mp hy).1
  rw [List.mem_append] at h ⊢
  cases hf : w.held.filter fun e => later e.finish reading with
  | nil =>
    rw [freePlace_nil hf] at h
    exact h.imp id nofun
  | cons e es =>
    rw [hf] at hsub
    rw [freePlace_cons hf] at h
    by_cases hroom : (without e.id w.list).length < 8
    · rw [if_pos hroom, (insertEntry_perm e _).mem_iff, List.mem_cons, mem_without] at h
      obtain (rfl | ⟨hx, -⟩) | hx := h
      · exact Or.inr (hsub x List.mem_cons_self)
      · exact Or.inl hx
      · exact Or.inr (hsub x (List.mem_cons_of_mem e hx))
    · rw [if_neg hroom] at h
      exact h.imp id (hsub x)

/-- A place that becomes free changes the list and the held windows alone. -/
theorem freePlace_frame (reading : NodeTime) (w : WindowUnit) : freePlace reading w =
    { w with list := (freePlace reading w).list, held := (freePlace reading w).held } := by
  cases hf : w.held.filter fun e => later e.finish reading with
  | nil => rw [freePlace_nil hf]
  | cons e es =>
    rw [freePlace_cons hf]
    split <;> rfl

theorem dropWindow_frame (id : WinId) (s : State) : dropWindow id s =
    s.withWin { s.win with list := (dropWindow id s).win.list, held := (dropWindow id s).win.held } := by
  unfold dropWindow
  dsimp only
  split
  · exact congrArg s.withWin (freePlace_frame _ _)
  · rfl

theorem dropWindow_absent {id : WinId} (h : ∀ e ∈ s.win.list, e.id ≠ id) :
    dropWindow id s = s.withWin { s.win with held := without id s.win.held } := by
  refine if_neg fun hc => ?_
  obtain ⟨e, he, hid⟩ := carries_iff.mp hc
  exact h e he hid

theorem dropWindow_present {id : WinId} (h : ∃ e ∈ s.win.list, e.id = id) : dropWindow id s =
    s.withWin (freePlace s.reading { s.win with held := without id s.win.held, list := without id s.win.list }) :=
  if_pos (carries_iff.mpr h)

/-- The window is gone from the list and from the held windows. -/
theorem dropWindow_gone (id : WinId) (s : State) :
    ∀ e ∈ (dropWindow id s).win.list ++ (dropWindow id s).win.held, e.id ≠ id := by
  intro e he
  by_cases h : ∃ e ∈ s.win.list, e.id = id
  · rw [dropWindow_present h] at he
    have := mem_freePlace he
    rw [List.mem_append, mem_without, mem_without] at this
    exact this.elim (·.2) (·.2)
  · have habsent : ∀ e ∈ s.win.list, e.id ≠ id := fun e he hid => h ⟨e, he, hid⟩
    rw [dropWindow_absent habsent, List.mem_append] at he
    exact he.elim (habsent e) fun he => (mem_without.mp he).2

theorem dropWindow_noHeld (id : WinId) (h : s.win.held = []) :
    dropWindow id s = s.withWin { s.win with list := without id s.win.list } := by
  have hheld : ∀ l : List Entry, ({ s.win with list := l, held := [] } : WindowUnit) = { s.win with list := l } := fun l => by
    rw [← h]
  have hnil : without id s.win.held = [] := by rw [h]; rfl
  by_cases hc : ∃ e ∈ s.win.list, e.id = id
  · rw [dropWindow_present hc, freePlace_nil (by dsimp only; rw [hnil]; rfl)]
    exact congrArg s.withWin (hheld _)
  · have habsent : ∀ e ∈ s.win.list, e.id ≠ id := fun e he hid => hc ⟨e, he, hid⟩
    rw [dropWindow_absent habsent, without_of_absent habsent, hnil]
    exact congrArg s.withWin (hheld s.win.list)

theorem ofByte_eq (b : Byte) : WinId.ofByte b = { station := b.toNat % 16, seq := b.toNat / 16 } := by
  have := b.isLt
  have h0 : bitsOf 0 4 b.toNat = b.toNat % 16 := by
    rw [bitsOf]
    omega
  have h4 : bitsOf 4 4 b.toNat = b.toNat / 16 := by
    rw [bitsOf]
    omega
  rw [WinId.ofByte, h0, h4]

theorem takeWithdraw_ignored {f : Frame} (h : f.payload.length ≠ 1) : takeWithdraw f s = s := if_neg h

theorem takeWithdraw_taken {r : Reception} (h : (payloadOf r).length = 1) : takeWithdraw (frameOf r.chars) s =
    dropWindow (WinId.ofByte ((payloadOf r).getD 0 0)) (s.withLine { s.line with
      queue := s.line.queue.map (Queued.markWithdrawn (WinId.ofByte ((payloadOf r).getD 0 0))) }) :=
  if_pos h

theorem entryEnd_due {e : Entry} {before behind : List Entry} (hrun : s.running = true)
    (hl : s.win.list = before ++ e :: behind) (hb : ∀ x ∈ before, s.reached x.finish = false)
    (he : s.reached e.finish = true) : exec .entryEnd s =
      .next (s.withWin (freePlace s.reading { s.win with list := before ++ behind })) := by
  have hany : s.win.list.any (Entry.over s) = true :=
    List.any_eq_true.mpr ⟨e, by rw [hl]; exact List.mem_append_right _ List.mem_cons_self, he⟩
  have herase : s.win.list.eraseP (Entry.over s) = before ++ behind := by
    rw [hl]
    exact eraseP_first he hb
  show execEntryEnd s = _
  unfold execEntryEnd
  rw [hrun, hany, herase]
  rfl

/-- Settles O44: the withdrawn window, the entry, the held window and blank-all, each as its command ends it. -/
theorem windowsLeaveTheList : Obligations.WindowsLeaveTheList := by
  refine ⟨fun r s h hkind hs => ?withdrawn, fun e before behind s hrun hl hb he => ?entry,
    fun e before behind s hrun hh hb he => ?held, fun e s hrun hend he => ?blankAll⟩
  case withdrawn =>
    have hexec : exec .withdrawReceived s = .next (takeWithdraw (frameOf r.chars) (ended s)) :=
      congrArg Host.Outcome.next (commitFrame_other h (isKind_of_eq hkind) hs)
    refine ⟨fun hlen => ?_, fun hlen => ?_⟩
    · rw [hexec, takeWithdraw_ignored hlen]
    · intro marked
      rw [hexec, takeWithdraw_taken hlen]
      have hmarked : (ended s).line.queue.map (Queued.markWithdrawn (WinId.ofByte ((payloadOf r).getD 0 0))) = marked := by
        rw [ofByte_eq]
        refine List.map_congr_left fun q _ => ?_
        unfold Queued.markWithdrawn
        cases q.frame <;> rfl
      rw [hmarked, ofByte_eq]
      refine ⟨fun hheld => congrArg Host.Outcome.next (dropWindow_noHeld _ hheld), _, rfl, dropWindow_gone _ _, ?_⟩
      rw [dropWindow_frame]
      exact ⟨rfl, rfl, rfl, rfl, rfl, rfl, rfl⟩
  case entry =>
    rw [entryEnd_due hrun hl hb he]
    refine ⟨fun hnone => ?_, fun x xs hx hroom hid => ?_⟩
    · exact congrArg (fun w => Host.Outcome.next (s.withWin w))
        (freePlace_nil (w := { s.win with list := before ++ behind }) hnone)
    · obtain ⟨l1, l2, hlist, hl1, hl2, hinsert⟩ := insertEntry_place x (before ++ behind)
      refine ⟨l1, l2, hlist, hl1, hl2, ?_⟩
      rw [freePlace_cons (w := { s.win with list := before ++ behind }) hx]
      dsimp only
      rw [without_of_absent hid, if_pos hroom, hinsert]
      rfl
  case held =>
    show execHeldWindowExpiry s = _
    unfold execHeldWindowExpiry
    rw [if_pos hrun, hh, eraseP_first (p := Entry.over s) he hb]
    rfl
  case blankAll =>
    show execBlankAllEnd s = _
    unfold execBlankAllEnd
    rw [hrun, Bool.true_and, hend, Option.any_some, he]
    rfl

/-! ## The grant (R88) -/

theorem responseEnd_due {e : NodeTime} (hrun : s.running = true) (hstate : s.win.own.state = .waiting)
    (hend : s.win.own.responseEnd = some e) (he : s.reached e = true) : exec .responseEnd s = .next (grant s) := by
  have hdue : responseDue s = true := by
    unfold responseDue
    rw [hrun, hstate, hend, Option.any_some, he]
    rfl
  show Host.Outcome.next (if responseDue s = true then grant s else s) = _
  rw [if_pos hdue]

theorem grant_eq {intervals : List (NodeTime × NodeTime)} (h : grantedIntervals s.cfg s.win.own = intervals) :
    grant s = setFlagIf
      ((foreignWindows s).any fun w => w.forced && intervals.any fun i => w.overlaps i.1 i.2) .forcedInto
      (s.withWin { s.win with
        own := { s.win.own with state := .granted }
        ownProt := (intervals.map fun i => newProtected (foreignWindows s) i.1 i.2).head?
        counting := s.win.counting ++ (intervals.map fun i => newProtected (foreignWindows s) i.1 i.2).tail }) := by
  rw [← h]
  rfl

/-- Settles O45: the protected intervals of each class's window, and the flag. -/
theorem responseEndGrants : Obligations.ResponseEndGrants := by
  intro e a b s hrun hstate hend he ha hb
  rw [responseEnd_due hrun hstate hend he]
  refine ⟨fun ⟨cycle, hc⟩ => ?polarize, fun ⟨set, hc⟩ => ?compStep⟩
  case polarize =>
    have hintervals : grantedIntervals s.cfg s.win.own = [(a, b), (b, plus b (s.cfg.count * Config.milli : Nat))] := by
      unfold grantedIntervals
      rw [ha, hb, hc]
      rfl
    rw [grant_eq hintervals]
    simp only [List.any_cons, List.any_nil, Bool.or_false]
    rfl
  case compStep =>
    have hintervals : grantedIntervals s.cfg s.win.own = [(a, b)] := by
      unfold grantedIntervals
      rw [ha, hb, hc]
      rfl
    rw [grant_eq hintervals]
    simp only [List.any_cons, List.any_nil, Bool.or_false]
    rfl

end Sys2Proof.Machine
end

section
/-! Corrected values, and the hand-over of an own record and of a scalar reading. -/

namespace Sys2Proof.Machine

variable {s t u : State}

/-! ## Temperatures and corrected values (R131, R132, R135) -/

theorem temperatureOf_spec (p : ProbeSettings) (count : Nat) : Temperature p count (temperatureOf p count) := by
  refine ⟨roundHalfAway ((count : Int) * p.span) 65536, roundHalfAway_spec _ (by decide), ?_⟩
  unfold temperatureOf
  rw [Nat.cast_mul]
  rfl

theorem recordTemperature_spec (s : State) (instant : NodeTime) :
    RecordTemperature s instant (recordTemperature s instant) := by
  unfold RecordTemperature recordTemperature
  refine ⟨fun h => by rw [h]; rfl, fun n hn => ⟨_, temperatureOf_spec _ n, ?_⟩⟩
  simp only [List.mem_cons, List.not_mem_nil, or_false] at hn
  obtain h | h | h := hn <;> rw [h] <;> rfl

theorem clampField_spec (v : Int) : Limited v (clampField v) := rfl

theorem correctedBy_plain (mean : Int) : correctedBy mean 0 0 = clampField mean := by
  have h0 : roundHalfAway (mean * 0) 100000000 = 0 := by rw [mul_zero]; decide
  rw [correctedBy, h0, sub_zero, sub_zero]

theorem correctValue_spec (cfg : Settings) (c : CompSettings) (t : TempState) (mean : Int) :
    CorrectedValue cfg c t mean (correctValue cfg c t mean).1 (correctValue cfg c t mean).2 := by
  refine ⟨fun h => ?_, fun n hn => ?_⟩
  · rw [h]
    exact ⟨(congrArg (Limited mean) (correctedBy_plain mean)).mpr (clampField_spec mean), rfl⟩
  · have hvalue : correctValue cfg c t mean =
        (correctedBy mean (lookUp c.table (temperatureOf (cfg.probe c.probe) n)).1
          (lookUp c.table (temperatureOf (cfg.probe c.probe) n)).2.1,
          (lookUp c.table (temperatureOf (cfg.probe c.probe) n)).2.2) := by
      obtain h | h | h := hn <;> rw [h] <;> rfl
    rw [hvalue]
    exact ⟨_, _, temperatureOf_spec _ n, roundHalfAway_spec _ (by decide), clampField_spec _, rfl⟩

/-! ## What the filling of a bank leaves alone (R155, R156) -/

/-- Everything stays but the block banks, their failures, the flags that are set in addition, and the STATE's slot. -/
structure Banked (s t : State) : Prop where
  env : t.env = s.env
  win : t.win = s.win
  agr : t.agr = s.agr
  ref : t.ref = s.ref
  acq : t.acq = s.acq
  corr : t.corr = s.corr
  queue : t.line.queue = s.line.queue
  markSlot : t.line.markSlot = s.line.markSlot
  records : t.ring.records = s.ring.records
  flags : ∀ f, flagIsSet f s = true → flagIsSet f t = true

theorem Banked.refl (s : State) : Banked s s := ⟨rfl, rfl, rfl, rfl, rfl, rfl, rfl, rfl, rfl, fun _ => id⟩

theorem Banked.trans (h : Banked s t) (h' : Banked t u) : Banked s u :=
  ⟨h'.env.trans h.env, h'.win.trans h.win, h'.agr.trans h.agr, h'.ref.trans h.ref, h'.acq.trans h.acq,
    h'.corr.trans h.corr, h'.queue.trans h.queue, h'.markSlot.trans h.markSlot, h'.records.trans h.records,
    fun f hf => h'.flags f (h.flags f hf)⟩

theorem LineUnit.markSlot_of_butState {l l' : LineUnit} (h : l.butState = l'.butState) : l.markSlot = l'.markSlot :=
  (congrArg LineUnit.markSlot h :)

theorem banked_setFlagIf (b : Bool) (f : Flag) (s : State) : Banked s (setFlagIf b f s) :=
  ⟨setFlagIf_env b f s, setFlagIf_win b f s, setFlagIf_agr b f s, setFlagIf_ref b f s, setFlagIf_acq b f s,
    setFlagIf_corr b f s, setFlagIf_line_queue b f s, LineUnit.markSlot_of_butState (setFlagIf_line b f s),
    congrArg RecordRing.records (setFlagIf_ring b f s), fun g hg => (flagIsSet_setFlagIf b g f s).mpr (Or.inl hg)⟩

theorem banked_setFlag (f : Flag) (s : State) : Banked s (setFlag f s) := banked_setFlagIf true f s

theorem banked_setBank (i : Bool) (b : Bank) (s : State) : Banked s (s.withRing (s.ring.setBank i b)) :=
  ⟨rfl, rfl, rfl, rfl, rfl, rfl, rfl, rfl, RecordRing.setBank_records _ i b, fun _ => id⟩

theorem banked_closeBank (i : Bool) (s : State) : Banked s (closeBank i s) := by
  rw [closeBank_eq]
  split
  · refine Banked.trans (t := (s.withRing (s.ring.switched i)).withLine { s.line with bankFailures := 0 }) ?_
      (banked_setFlagIf _ _ _)
    refine ⟨rfl, rfl, rfl, rfl, rfl, rfl, rfl, rfl, ?_, fun _ => id⟩
    exact (RecordRing.setBank_records _ _ _).trans (RecordRing.setBank_records _ _ _)
  · exact Banked.refl s

theorem banked_fillBank (r : Record) (s : State) : Banked s (fillBank r s) := by
  unfold fillBank
  split
  · exact Banked.refl s
  · rename_i i _
    dsimp only
    split
    · split
      · exact banked_setBank i _ s
      · exact (banked_setBank i _ s).trans (banked_closeBank i _)
    · exact (banked_setBank i _ s).trans (banked_setFlag _ _)

/-- An own record handed over: committed, and everything else kept but for its bank. -/
theorem handRecord_banked (r : Record) (s : State) : Banked (s.withRing (s.ring.add r)) (handRecord r s) :=
  ((banked_setFlagIf _ _ _).trans (banked_fillBank r _)).trans (banked_setFlagIf _ _ _)

theorem add_of_room {g : RecordRing} (r : Record) (h : g.records.length < 16384) :
    g.add r = { g with records := g.records ++ [r] } := by
  unfold RecordRing.add
  rw [RecordRing.not_full h]
  rfl

theorem handRecord_room (r : Record) (h : s.ring.records.length < 16384) :
    Banked (s.withRing { s.ring with records := s.ring.records ++ [r] }) (handRecord r s) :=
  add_of_room r h ▸ handRecord_banked r s

theorem handRecord_tableEdge {r : Record} (h : r.flags.tableEdge = true) :
    flagIsSet .tableEdge (handRecord r s) = true := by
  unfold handRecord
  rw [h]
  exact (flagIsSet_setFlagIf true _ _ _).mpr (Or.inr ⟨rfl, rfl⟩)

/-! ## The scalar reading (R121, R122, R136) -/

theorem any_not_iff {α : Type} (p : α → Bool) (o : Option α) :
    (o.any fun l => !p l) = true ↔ ¬ ∀ last, o = some last → p last = true := by
  cases o with
  | none => simp
  | some last => simp

theorem tagTime_eq (tag : NodeTime) : tagTime tag = tag - tag % 1000000 := by
  rw [tagTime]
theorem not_hands_iff (tag : NodeTime) (s : State) :
    (s.acq.lastTag.any fun l => !later (tagTime tag) l) = true ↔ ¬ Hands tag s := by
  rw [any_not_iff]
  unfold Hands
  rw [tagTime_eq]

theorem handReading_discarded {tag : NodeTime} (value : ScalarValue) (mark : Bool) (h : ¬ Hands tag s) :
    handReading tag value mark s = s := if_pos ((not_hands_iff tag s).mpr h)

theorem handReading_handed {tag : NodeTime} (value : ScalarValue) (mark : Bool) (h : Hands tag s) :
    handReading tag value mark s = (closeScalar (tagTime tag) value s.acq.stepped mark s).withAcq
      { s.acq with lastTag := some (tagTime tag), stepped := false } :=
  if_neg fun hn => (not_hands_iff tag s).mp hn h

/-- A frequency that was held within the limit. -/
def ScalarValue.clamped : ScalarValue → Bool
  | .frequency f => decide (17000000 < f)
  | .missing | .skipped => false

/-- What a scalar reading brings: its corrected value, none for a missing or a skipped one. -/
def scalarPresent (value : ScalarValue) (s : State) : Option Corrected :=
  match value with
  | .frequency f =>
    if f = 0 then none
    else
      some
        { value := (correctValue s.cfg s.cfg.comps.x ((s.acq.probe s.cfg.comps.x.probe).stateAt s.reading)
            (scalarField (min f 17000000))).1
          edge := (correctValue s.cfg s.cfg.comps.x ((s.acq.probe s.cfg.comps.x.probe).stateAt s.reading)
            (scalarField (min f 17000000))).2
          temp := (s.acq.probe s.cfg.comps.x.probe).stateAt s.reading }
  | .missing | .skipped => none

/-- The record of a scalar reading. -/
def scalarRecord' (tag : NodeTime) (value : ScalarValue) (stepped mark : Bool) (s : State) : Record :=
  ownRecord s (secondsOf tag) (millisOf tag)
    (broughtBy (scalarPresent value s).toList
      { RecordFlags.noFlags with
        stepped := stepped, disturbed := mark, saturated := value.clamped
        missing := decide (value = .missing) || decide (value = .frequency 0), skipped := decide (value = .skipped) })
    { value := ⟨(scalarPresent value s).map (·.value), none, none⟩
      valid := ⟨if (scalarPresent value s).isSome then 10 else 0, 0, 0⟩
      temperature := recordTemperature s s.reading }

theorem closeScalar_record (tag : NodeTime) (value : ScalarValue) (stepped mark : Bool) (s : State) :
    closeScalar tag value stepped mark s =
      setFlagIf value.clamped .saturated (handRecord (scalarRecord' tag value stepped mark s) s) := by
  cases value <;> rfl

theorem tagTime_parts {tag : NodeTime} (h : tag < Config.circle) :
    secondsOf (tagTime tag) = tag / 1000000000 ∧ millisOf (tagTime tag) = tag % 1000000000 / 1000000 := by
  have hle : tag - tag % 1000000 < 4294967296000000000 := lt_of_le_of_lt (Nat.sub_le _ _) h
  have hmod : (tag - tag % 1000000) % 4294967296000000000 = tag - tag % 1000000 := Nat.mod_eq_of_lt hle
  unfold secondsOf millisOf tagTime Config.second Config.milli Config.circle
  rw [hmod]
  omega

theorem Banked.withAcq (h : Banked s t) (a : Acquisition) : Banked (s.withAcq a) (t.withAcq a) :=
  ⟨h.env, h.win, h.agr, h.ref, rfl, h.corr, h.queue, h.markSlot, h.records, h.flags⟩

/-- A reading handed over in a ring with room: its record is committed, its tag kept and the marker taken, and
everything else stays. -/
theorem handReading_spec {tag : NodeTime} (value : ScalarValue) (mark : Bool) (htag : tag < Config.circle)
    (h : Hands tag s) (hroom : s.ring.records.length < 16384) :
    HandedOver tag mark (decide (value = .missing) || decide (value = .frequency 0)) (decide (value = .skipped))
      value.clamped ((scalarPresent value s).map (·.value)) s (handReading tag value mark s) ∧
    Banked ((s.withRing { s.ring with
        records := s.ring.records ++ [scalarRecord' (tagTime tag) value s.acq.stepped mark s] }).withAcq
      { s.acq with lastTag := some (tagTime tag), stepped := false }) (handReading tag value mark s) ∧
    (value.clamped = true → flagIsSet .saturated (handReading tag value mark s) = true) ∧
    ((scalarPresent value s).any (·.edge) = true → flagIsSet .tableEdge (handReading tag value mark s) = true) := by
  rw [handReading_handed value mark h, closeScalar_record]
  generalize hr : scalarRecord' (tagTime tag) value s.acq.stepped mark s = r
  have hkept := (handRecord_room (s := s) r hroom).trans (banked_setFlagIf value.clamped .saturated _)
  obtain ⟨hseconds, hmillis⟩ := tagTime_parts htag
  refine ⟨⟨r, { value := ⟨(scalarPresent value s).map (·.value), none, none⟩
                valid := ⟨if (scalarPresent value s).isSome then 10 else 0, 0, 0⟩
                temperature := recordTemperature s s.reading }, hkept.records, ?_⟩, hkept.withAcq _, fun hc => ?_, fun he => ?_⟩
  rotate_left
  · rw [hc]
    exact (flagIsSet_setFlag _ _ _).mpr (Or.inr rfl)
  · refine (banked_setFlagIf value.clamped .saturated (handRecord r s)).flags .tableEdge (handRecord_tableEdge ?_)
    rw [← hr]
    cases hp : scalarPresent value s with
    | none => rw [hp] at he; exact absurd he Bool.false_ne_true
    | some c =>
      rw [hp] at he
      unfold scalarRecord'
      rw [hp]
      exact (Bool.or_false _).trans he
  · rw [← hr]
    refine ⟨rfl, rfl, rfl, rfl, hseconds, hmillis, rfl, rfl, rfl, rfl, rfl, rfl, rfl, rfl, ?_,
      recordTemperature_spec s s.reading, rfl, rfl⟩
    cases scalarPresent value s <;> rfl

/-- A reading, handed over or discarded, changes no more than the ring, its banks, flags and the last tag. -/
theorem handReading_banked (tag : NodeTime) (value : ScalarValue) (mark : Bool) (s : State) :
    ∃ g last stepped, Banked ((s.withRing g).withAcq { s.acq with lastTag := last, stepped := stepped })
      (handReading tag value mark s) := by
  by_cases h : Hands tag s
  · rw [handReading_handed value mark h, closeScalar_record]
    exact ⟨_, _, _, ((handRecord_banked _ s).trans (banked_setFlagIf _ _ _)).withAcq _⟩
  · rw [handReading_discarded value mark h]
    exact ⟨s.ring, s.acq.lastTag, s.acq.stepped, Banked.refl s⟩

theorem skipCycle_banked (cycle : NodeTime) (s : State) :
    (∃ g last stepped, Banked ((s.withRing g).withAcq { s.acq with lastTag := last, stepped := stepped })
      (skipCycle cycle s)) ∧ flagIsSet .cycleSkipped (skipCycle cycle s) = true := by
  unfold skipCycle
  obtain ⟨g, last, stepped, h⟩ := handReading_banked
    (plus cycle (s.cfg.polarize * Config.milli + s.cfg.count * 500000 : Nat)) .skipped false s
  exact ⟨⟨g, last, stepped, h.trans (banked_setFlag _ _)⟩, (flagIsSet_setFlag _ _ _).mpr (Or.inr rfl)⟩

end Sys2Proof.Machine
end

section
/-! The receiver's decision on an ASK, the refusal of the own one, and the wait end. -/

namespace Sys2Proof.Machine

variable {s t u : State}

/-! ## What entering a window leaves alone (R93, R97, R98, R100) -/

/-- Everything stays but the list, the held windows, blank-all, the protected intervals' marks, the flags that are set
in addition, and the STATE's slot. -/
structure Entered (s t : State) : Prop where
  env : t.env = s.env
  own : t.win.own = s.win.own
  agr : t.agr = s.agr
  ref : t.ref = s.ref
  acq : t.acq = s.acq
  corr : t.corr = s.corr
  ring : t.ring = s.ring
  queue : t.line.queue = s.line.queue
  flags : ∀ f, flagIsSet f s = true → flagIsSet f t = true

theorem Entered.refl (s : State) : Entered s s := ⟨rfl, rfl, rfl, rfl, rfl, rfl, rfl, rfl, fun _ => id⟩

theorem Entered.trans (h : Entered s t) (h' : Entered t u) : Entered s u :=
  ⟨h'.env.trans h.env, h'.own.trans h.own, h'.agr.trans h.agr, h'.ref.trans h.ref, h'.acq.trans h.acq,
    h'.corr.trans h.corr, h'.ring.trans h.ring, h'.queue.trans h.queue, fun f hf => h'.flags f (h.flags f hf)⟩

theorem entered_setFlagIf (b : Bool) (f : Flag) (s : State) : Entered s (setFlagIf b f s) :=
  ⟨setFlagIf_env b f s, congrArg WindowUnit.own (setFlagIf_win b f s), setFlagIf_agr b f s, setFlagIf_ref b f s,
    setFlagIf_acq b f s, setFlagIf_corr b f s, setFlagIf_ring b f s, setFlagIf_line_queue b f s,
    fun g hg => (flagIsSet_setFlagIf b g f s).mpr (Or.inl hg)⟩

theorem entered_withWin {w : WindowUnit} (h : w.own = s.win.own) : Entered s (s.withWin w) :=
  ⟨rfl, h, rfl, rfl, rfl, rfl, rfl, rfl, fun _ => id⟩

theorem entered_withWin_setFlagIf {w : WindowUnit} (b : Bool) (f : Flag) (h : w.own = s.win.own) :
    Entered s (setFlagIf b f (s.withWin w)) :=
  (entered_withWin h).trans (entered_setFlagIf b f (s.withWin w))

theorem entered_enterWindow (w : Entry) (s : State) : Entered s (enterWindow w s) := by
  unfold enterWindow
  dsimp only
  split
  · exact entered_withWin rfl
  · split
    · exact entered_withWin_setFlagIf true .listFull rfl
    · exact entered_withWin_setFlagIf true .listFull rfl

theorem entered_markOverlapped (w : Entry) (s : State) : Entered s (markOverlapped w s) :=
  entered_withWin_setFlagIf _ _ rfl

theorem entered_deferLost (f : WinFrame) (s : State) : Entered s (deferLost f s) := by
  cases f with
  | ask id cls d a => exact Entered.refl s
  | withdraw id start => exact Entered.refl s
  | defer w lead e g m =>
    rw [deferLost_eq]
    split
    · exact Entered.refl s
    · split
      · exact (entered_markOverlapped w s).trans (entered_enterWindow w _)
      · exact entered_markOverlapped w s

theorem entered_dropWindow (id : WinId) (s : State) : Entered s (dropWindow id s) := by
  rw [dropWindow_frame]
  exact entered_withWin rfl

/-- A frame that is handed over joins the newest end, unless a full queue has none to give up. -/
theorem joinQueue_entered (f : WinFrame) (s : State) :
    ∃ queue, Entered (s.withLine { s.line with queue := queue }) (joinQueue f s) ∧
      ((4 ≤ s.line.queue.length → ∃ q ∈ s.line.queue, q.idleDefer = true ∨ q.idleWithdraw = true) →
        queue.getLast? = some (Queued.fresh f)) := by
  by_cases hlen : s.line.queue.length < 4
  · rw [joinQueue_room f hlen]
    exact ⟨_, Entered.refl _, fun _ => List.getLast?_concat⟩
  · have hlen := Nat.not_lt.mp hlen
    cases hd : s.line.queue.find? Queued.idleDefer with
    | some d =>
      rw [joinQueue_defer f hlen hd]
      exact ⟨_, entered_deferLost _ _, fun _ => List.getLast?_concat⟩
    | none =>
      cases hw : s.line.queue.find? Queued.idleWithdraw with
      | some d =>
        rw [joinQueue_withdraw f hlen hd hw]
        exact ⟨_, Entered.refl _, fun _ => List.getLast?_concat⟩
      | none =>
        have hsame : joinQueue f s = s := by
          unfold joinQueue
          dsimp only
          rw [if_neg (Nat.not_lt.mpr hlen), hd]
          dsimp only
          rw [hw]
        rw [hsame]
        refine ⟨s.line.queue, Entered.refl s, fun h => ?_⟩
        obtain ⟨q, hq, hidle⟩ := h hlen
        exact absurd hidle (not_or.mpr ⟨List.find?_eq_none.mp hd q hq, List.find?_eq_none.mp hw q hq⟩)

theorem joinQueue_own (f : WinFrame) (s : State) : (joinQueue f s).win.own = s.win.own := by
  obtain ⟨queue, h, -⟩ := joinQueue_entered f s
  exact h.own

/-! ## The wait end (R90) -/

theorem waitEnd_due {e : NodeTime} (hrun : s.running = true) (hstate : s.win.own.state = .deferred)
    (hhold : s.win.waitHold = false) (hend : s.win.own.waitEnd = some e) (he : s.reached e = true) :
    exec .waitEnd s = .next (handAsk s) := by
  have hdue : waitDue s = true := by
    unfold waitDue
    rw [hrun, hstate, hhold, hend, Option.any_some, he]
    rfl
  show Host.Outcome.next (if waitDue s = true then handAsk s else s) = _
  rw [if_pos hdue]

theorem handAsk_own (s : State) : (handAsk s).win.own = { s.win.own with
    state := .asking, attempts := min (s.win.own.attempts + 1) 255, seq := (s.win.own.seq + 1) % 16
    responseEnd := none, start := none, finish := none, waitEnd := none } :=
  joinQueue_own _ _

theorem idle_of_not_ask {q : Queued} (hin : q.inAttempt = false) (h : ∀ id cls d a, q.frame ≠ .ask id cls d a) :
    q.idleDefer = true ∨ q.idleWithdraw = true := by
  cases hf : q.frame with
  | ask id cls d a => exact absurd hf (h id cls d a)
  | defer w lead e g m => exact Or.inl ((idleDefer_iff q).mpr ⟨hin, w, lead, e, g, m, hf⟩)
  | withdraw id start => exact Or.inr ((idleWithdraw_iff q).mpr ⟨hin, id, start, hf⟩)

/-- Settles O42: the ASK handed over anew. -/
theorem waitEndAsksAnew : Obligations.WaitEndAsksAnew := by
  intro e s hrun hstate hhold hend he hqueue
  obtain ⟨queue, hentered, hlast⟩ := joinQueue_entered
    (.ask { station := s.cfg.station, seq := s.win.own.seq } s.win.own.cause.cls (s.cfg.duration s.win.own.cause.cls)
      (s.cfg.affect s.win.own.cause.cls))
    (s.withWin { s.win with own := { s.win.own with
      state := .asking, attempts := min (s.win.own.attempts + 1) 255, seq := (s.win.own.seq + 1) % 16
      responseEnd := none, start := none, finish := none, waitEnd := none } })
  refine ⟨handAsk s, s.win.own.cause.cls, s.cfg.duration s.win.own.cause.cls, s.cfg.affect s.win.own.cause.cls,
    waitEnd_due hrun hstate hhold hend he, fun ⟨set, hc⟩ => by rw [hc]; exact ⟨rfl, rfl, rfl⟩,
    fun ⟨cycle, hc⟩ => by rw [hc]; exact ⟨rfl, rfl, rfl⟩, ?_, fun hid => ?_, handAsk_own s, ?_⟩
  · refine (congrArg List.getLast? hentered.queue).trans (hlast fun hlen => ?_)
    obtain ⟨q, hq, hin, hask⟩ := hqueue hlen
    exact ⟨q, hq, idle_of_not_ask hin hask⟩
  · have hseq : s.win.own.seq = (s.win.own.seq + 15) % 16 := congrArg WinId.seq hid
    omega
  · rw [handAsk_own]
    rfl

/-! ## The refusal of the own ask (R86, R87) -/

theorem setFlag_withWin (f : Flag) (w : WindowUnit) (s : State) :
    setFlag f (s.withWin w) = (setFlag f s).withWin w := by
  by_cases h : s.cfg.masks.get f.group &&& f.mask ≠ 0#8 ∧ s.flag.closed.get f.group = false
  · rw [setFlag_closes (s := s.withWin w) h, setFlag_closes h]
    rfl
  · rw [setFlag_alone (s := s.withWin w) h, setFlag_alone h]
    rfl

/-- What a refused record becomes, once the WITHDRAW of a sent ASK has been handed over. -/
def refused (waitEnd : NodeTime) (s : State) : State :=
  match s.win.own.cause with
  | .compStep _ =>
    s.withWin { s.win with
      own := { s.win.own with
        state := .deferred, responseEnd := none, start := none, finish := none, waitEnd := some waitEnd }
      waitHold := true }
  | .polarize cycle =>
    skipCycle cycle ((s.withWin { s.win with own := s.win.own.ended }).withAcq { s.acq with asked := none })
  | .void => s.withWin { s.win with own := s.win.own.ended }

theorem refuseOwn_unsent (waitEnd : NodeTime) (s : State) :
    refuseOwn waitEnd false s = refused waitEnd (setFlag .ownDeferred s) := rfl

theorem refuseOwn_sent (waitEnd : NodeTime) (s : State) : refuseOwn waitEnd true s = refused waitEnd
    (if s.win.own.cause.cls = .compStep then
      dropWindow (ownId s) (joinQueue (.withdraw (ownId s) (s.win.own.start.getD 0)) (setFlag .ownDeferred s))
    else joinQueue (.withdraw (ownId s) (s.win.own.start.getD 0)) (setFlag .ownDeferred s)) := rfl

theorem refused_compStep {waitEnd : NodeTime} {set : Triple Bool} (h : s.win.own.cause = .compStep set) :
    refused waitEnd s = s.withWin { s.win with
      own := { s.win.own with
        state := .deferred, responseEnd := none, start := none, finish := none, waitEnd := some waitEnd }
      waitHold := true } := by
  unfold refused
  rw [h]

theorem refused_polarize {waitEnd cycle : NodeTime} (h : s.win.own.cause = .polarize cycle) :
    refused waitEnd s =
      skipCycle cycle ((s.withWin { s.win with own := s.win.own.ended }).withAcq { s.acq with asked := none }) := by
  unfold refused
  rw [h]

/-- What every refusal leaves alone, and what it makes void. -/
structure OwnRefused (s t : State) : Prop where
  env : t.env = s.env
  queue : t.line.queue = s.line.queue
  list : t.win.list = s.win.list
  held : t.win.held = s.win.held
  agr : t.agr = s.agr
  ref : t.ref = s.ref
  steps : t.acq.steps = s.acq.steps
  flags : ∀ f, flagIsSet f s = true → flagIsSet f t = true
  seq : t.win.own.seq = s.win.own.seq
  nextComps : t.win.own.nextComps = s.win.own.nextComps
  void : t.win.own.responseEnd = none ∧ t.win.own.start = none ∧ t.win.own.finish = none
  polarize : ∀ cycle, s.win.own.cause = .polarize cycle →
    t.win.own = s.win.own.ended ∧ t.acq.asked = none ∧ flagIsSet .cycleSkipped t = true

theorem refused_spec (waitEnd : NodeTime) (s : State) : OwnRefused s (refused waitEnd s) := by
  cases hc : s.win.own.cause with
  | compStep set =>
    rw [refused_compStep hc]
    exact ⟨rfl, rfl, rfl, rfl, rfl, rfl, rfl, fun _ => id, rfl, rfl, ⟨rfl, rfl, rfl⟩,
      fun cycle h => absurd (hc.symm.trans h) nofun⟩
  | void =>
    have hvoid : refused waitEnd s = s.withWin { s.win with own := s.win.own.ended } := by
      unfold refused
      rw [hc]
    rw [hvoid]
    exact ⟨rfl, rfl, rfl, rfl, rfl, rfl, rfl, fun _ => id, rfl, rfl, ⟨rfl, rfl, rfl⟩,
      fun cycle h => absurd (hc.symm.trans h) nofun⟩
  | polarize cycle =>
    rw [refused_polarize hc]
    obtain ⟨⟨g, last, stepped, h⟩, hskipped⟩ := skipCycle_banked cycle
      ((s.withWin { s.win with own := s.win.own.ended }).withAcq { s.acq with asked := none })
    have hwin := h.win
    have hacq := h.acq
    exact ⟨h.env, h.queue, by rw [hwin]; rfl, by rw [hwin]; rfl, h.agr, h.ref, by rw [hacq]; rfl, h.flags, by rw [hwin]; rfl,
      by rw [hwin]; rfl, by rw [hwin]; exact ⟨rfl, rfl, rfl⟩,
      fun _ _ => ⟨by rw [hwin]; rfl, by rw [hacq]; rfl, hskipped⟩⟩

/-! ## A DEFER of the own ask (R85) -/

/-- A DEFER of the own ask, by the state of the record. -/
def deferOwn (waitEnd : NodeTime) (s : State) : State :=
  match s.win.own.state with
  | .waiting => if s.win.own.forced then s else refuseOwn waitEnd true s
  | .deferred => s.withWin { s.win with own := { s.win.own with waitEnd := some (extendEnd waitEnd s.win.own.waitEnd) } }
  | .none | .asking | .granted | .opened => s

theorem takeDefer_eq (r : Reception) (s : State) : takeDefer (frameOf r.chars) r s =
    if (payloadOf r).length = 3 ∧ WinId.ofByte ((payloadOf r).getD 0 0) = ownId s then
      deferOwn (plus (s.win.leadCap.getD r.capture.reading) (min (natAt 1 2 (payloadOf r)) 60000 * Config.milli : Nat)) s
    else s := rfl

theorem deferOwn_idle {waitEnd : NodeTime} (h : s.win.own.state ∈ [.none, .asking, .granted, .opened] ∨
    (s.win.own.state = .waiting ∧ s.win.own.forced = true)) : deferOwn waitEnd s = s := by
  unfold deferOwn
  obtain h | ⟨h, hforced⟩ := h
  · simp only [List.mem_cons, List.not_mem_nil, or_false] at h
    obtain h | h | h | h := h <;> rw [h]
  · rw [h]
    exact if_pos hforced

theorem deferOwn_waiting {waitEnd : NodeTime} (h : s.win.own.state = .waiting) (hforced : s.win.own.forced = false) :
    deferOwn waitEnd s = refuseOwn waitEnd true s := by
  unfold deferOwn
  rw [h]
  exact if_neg (by rw [hforced]; exact Bool.false_ne_true)

theorem deferOwn_deferred {waitEnd e : NodeTime} (h : s.win.own.state = .deferred) (he : s.win.own.waitEnd = some e) :
    deferOwn waitEnd s =
      s.withWin { s.win with own := { s.win.own with waitEnd := some (if later waitEnd e then waitEnd else e) } } := by
  unfold deferOwn
  rw [h, he]
  rfl

/-- Settles O41: the DEFERs, the refusal of an ask that was not sent, and of one that was. -/
theorem ownAskIsRefused : Obligations.OwnAskIsRefused := by
  refine ⟨fun r s h hkind hs => ?defer, fun waitEnd s => ?unsent, fun waitEnd s hroom => ?sent⟩
  case defer =>
    have hexec : exec .deferReceived s = .next (takeDefer (frameOf r.chars) r (ended s)) :=
      congrArg Host.Outcome.next (commitFrame_other h (isKind_of_eq hkind) hs)
    rw [takeDefer_eq, ofByte_eq] at hexec
    refine ⟨fun hignored => ?_, fun lead hlen hid hlead => ?_⟩
    · rw [hexec]
      by_cases hto : (payloadOf r).length = 3 ∧ ({ station := ((payloadOf r).getD 0 0).toNat % 16
                                                   seq := ((payloadOf r).getD 0 0).toNat / 16 } : WinId) = ownId (ended s)
      · rw [if_pos hto, deferOwn_idle (s := ended s)
          ((hignored.resolve_left (not_not.mpr hto.1)).resolve_left (not_not.mpr hto.2))]
      · rw [if_neg hto]
    · rw [if_pos ⟨hlen, hid⟩, show (ended s).win.leadCap = some lead from hlead] at hexec
      rw [hexec]
      exact ⟨fun hstate hforced => congrArg Host.Outcome.next (deferOwn_waiting hstate hforced),
        fun e hstate hend => congrArg Host.Outcome.next (deferOwn_deferred hstate hend)⟩
  case unsent =>
    intro t
    have hspec := refused_spec waitEnd (setFlag .ownDeferred s)
    rw [← refuseOwn_unsent] at hspec
    have hflag : flagIsSet .ownDeferred (setFlag .ownDeferred s) = true := (flagIsSet_setFlag _ _ _).mpr (Or.inr rfl)
    refine ⟨hspec.queue.trans (setFlag_line_queue _ s), hspec.list.trans (by rw [setFlag_win]),
      hspec.held.trans (by rw [setFlag_win]), hspec.flags _ hflag, fun set hc => ?_, fun cycle hc => ?_⟩
    · show refuseOwn waitEnd false s = _
      rw [refuseOwn_unsent, refused_compStep (s := setFlag .ownDeferred s) (by rw [setFlag_win]; exact hc), setFlag_win]
      exact (setFlag_withWin _ _ s).symm
    · obtain ⟨hown, hasked, hskipped⟩ := hspec.polarize cycle (by rw [setFlag_win]; exact hc)
      exact ⟨hown.trans (by rw [setFlag_win]; rfl), hasked, hskipped⟩
  case sent =>
    intro own t
    obtain ⟨w, hw, hentered, hgone, hkept⟩ : ∃ w, t = refused waitEnd w ∧
        Entered ((setFlag .ownDeferred s).withLine { (setFlag .ownDeferred s).line with
          queue := s.line.queue ++ [Queued.fresh (.withdraw own (s.win.own.start.getD 0))] }) w ∧
        ((∃ set, s.win.own.cause = .compStep set) → ∀ e ∈ w.win.list ++ w.win.held, e.id ≠ own) ∧
        (∀ cycle, s.win.own.cause = .polarize cycle → w.win.list = s.win.list ∧ w.win.held = s.win.held) := by
      have hjoin : joinQueue (.withdraw own (s.win.own.start.getD 0)) (setFlag .ownDeferred s) =
          (setFlag .ownDeferred s).withLine { (setFlag .ownDeferred s).line with
            queue := s.line.queue ++ [Queued.fresh (.withdraw own (s.win.own.start.getD 0))] } := by
        rw [joinQueue_room _ (by rw [setFlag_line_queue]; exact hroom), setFlag_line_queue]
      refine ⟨_, refuseOwn_sent waitEnd s, ?_, fun ⟨set, hc⟩ => ?_, fun cycle hc => ?_⟩
      · split
        · exact hjoin ▸ entered_dropWindow own _
        · exact hjoin ▸ Entered.refl _
      · rw [if_pos (by rw [hc]; rfl)]
        exact dropWindow_gone own _
      · rw [if_neg (by rw [hc]; exact nofun), show ownId s = own from rfl, hjoin, State.withLine_win, setFlag_win]
        exact ⟨rfl, rfl⟩
    have hspec := refused_spec waitEnd w
    have hown : w.win.own = s.win.own := hentered.own.trans (by rw [State.withLine_win, setFlag_win])
    have henv : t.env = s.env := by rw [hw, hspec.env, hentered.env]; exact setFlag_env _ s
    have hflag : flagIsSet .ownDeferred (setFlag .ownDeferred s) = true := (flagIsSet_setFlag _ _ _).mpr (Or.inr rfl)
    rw [hw]
    refine ⟨hspec.queue.trans hentered.queue, hspec.flags _ (hentered.flags _ hflag), by rw [hspec.seq, hown],
      by rw [hspec.nextComps, hown], hspec.void.1, hspec.void.2.1, hspec.void.2.2, cfg_of_env (hw ▸ henv),
      clock_of_env (hw ▸ henv),
      by rw [hspec.agr, hentered.agr]; exact setFlag_agr _ s, by rw [hspec.ref, hentered.ref]; exact setFlag_ref _ s,
      by rw [hspec.steps, hentered.acq]; exact congrArg Acquisition.steps (setFlag_acq _ s), fun set hc => ?_,
      fun cycle hc => ?_⟩
    · have hcomp := refused_compStep (waitEnd := waitEnd) (s := w) (by rw [hown]; exact hc)
      rw [hcomp]
      exact ⟨rfl, by rw [State.withWin_win, hown]; exact hc, rfl, hgone ⟨set, hc⟩, hentered.ring.trans (setFlag_ring _ s)⟩
    · obtain ⟨hended, hasked, hskipped⟩ := hspec.polarize cycle (by rw [hown]; exact hc)
      obtain ⟨hlist, hheld⟩ := hkept cycle hc
      exact ⟨by rw [hended]; rfl, by rw [hended]; rfl, by rw [hended]; rfl, hasked, hskipped, hspec.list.trans hlist,
        hspec.held.trans hheld⟩

end Sys2Proof.Machine
end

section
/-! The receiver's decision on an ASK. -/

namespace Sys2Proof.Machine

variable {s t u : State}

/-! ## What an ASK asks for (R79) -/

theorem WinClass.ofCode_of_mem {n : Nat} (h : n ∈ [1, 2]) :
    WinClass.ofCode n = some (if n = 1 then .polarize else .compStep) := by
  simp only [List.mem_cons, List.not_mem_nil, or_false] at h
  obtain rfl | rfl := h <;> rfl

theorem WinClass.ofCode_of_not_mem {n : Nat} (h : n ∉ [1, 2]) : WinClass.ofCode n = none := by
  simp only [List.mem_cons, List.not_mem_nil, or_false, not_or] at h
  unfold WinClass.ofCode
  split
  · exact absurd rfl h.1
  · exact absurd rfl h.2
  · rfl

/-- The conditions on an ASK, its class code apart. -/
def AskMeets (f : Frame) (s : State) : Prop :=
  f.payload.length = 9 ∧ (WinId.ofByte (f.payload.getD 0 0)).station = f.station ∧ natAt 5 2 f.payload ≠ 0 ∧
    StationSet.has (BitVec.ofNat 16 (natAt 7 2 f.payload)) s.cfg.station = true

theorem takeAsk_taken {f : Frame} {r : Reception} (hc : natAt 1 1 f.payload ∈ [1, 2]) (h : AskMeets f s) :
    takeAsk f r s = decideAsk
      (askedWindow (WinId.ofByte (f.payload.getD 0 0)) (if natAt 1 1 f.payload = 1 then .polarize else .compStep)
        f.payload (s.win.leadCap.getD r.capture.reading)) r.leadTick
      (dropWindow (WinId.ofByte (f.payload.getD 0 0)) s) := by
  unfold takeAsk
  dsimp only
  rw [WinClass.ofCode_of_mem hc]
  exact if_pos h

theorem takeAsk_ignored {f : Frame} {r : Reception} (h : ¬ (natAt 1 1 f.payload ∈ [1, 2] ∧ AskMeets f s)) :
    takeAsk f r s = s := by
  unfold takeAsk
  dsimp only
  by_cases hc : natAt 1 1 f.payload ∈ [1, 2]
  · rw [WinClass.ofCode_of_mem hc]
    exact if_neg fun hm => h ⟨hc, hm⟩
  · rw [WinClass.ofCode_of_not_mem hc]

/-! ## The decision (R93 to R96) -/

section Decision

variable {w : Entry} {lead : Nat}

theorem decideAsk_forced (h : w.forced = true) : decideAsk w lead s = enterWindow w (markOverlapped w s) :=
  if_pos h

theorem decideAsk_waiting_refused (hw : w.forced = false) (h : waitingOverlap w s.win.own = true)
    (hby : s.win.own.forced = true ∨ s.cfg.station < w.id.station) :
    decideAsk w lead s = refuseAsk w lead (s.win.own.finish.getD 0) s := by
  unfold decideAsk
  dsimp only
  rw [if_neg (by rw [hw]; exact Bool.false_ne_true), if_pos h, if_pos (by simpa using hby)]

theorem decideAsk_waiting_givesWay (hw : w.forced = false) (h : waitingOverlap w s.win.own = true)
    (hforced : s.win.own.forced = false) (hstation : w.id.station ≤ s.cfg.station) :
    decideAsk w lead s = enterWindow w (refuseOwn w.finish true s) := by
  unfold decideAsk
  dsimp only
  rw [if_neg (by rw [hw]; exact Bool.false_ne_true), if_pos h, if_neg (by simpa [hforced] using hstation)]

theorem decideAsk_protected (hw : w.forced = false) (h : waitingOverlap w s.win.own = false) {q : Protected}
    {qs : List Protected} (hq : s.win.protectedIntervals.filter w.overlapsProt = q :: qs) :
    decideAsk w lead s = refuseAsk w lead (latestEnd q.finish qs) s := by
  unfold decideAsk
  dsimp only
  rw [if_neg (by rw [hw]; exact Bool.false_ne_true), if_neg (by rw [h]; exact Bool.false_ne_true), hq]

theorem decideAsk_free (hw : w.forced = false) (h : waitingOverlap w s.win.own = false)
    (hq : s.win.protectedIntervals.filter w.overlapsProt = []) : decideAsk w lead s =
      if 8 ≤ s.win.list.length then joinQueue (.defer w lead (earliestEnd s.win.list) false false) s
      else enterWindow w s := by
  unfold decideAsk
  dsimp only
  rw [if_neg (by rw [hw]; exact Bool.false_ne_true), if_neg (by rw [h]; exact Bool.false_ne_true), hq]

end Decision

theorem waitingOverlap_iff {w : Entry} {o : OwnWindow} : waitingOverlap w o = true ↔
    o.state = .waiting ∧ ∃ a b, o.start = some a ∧ o.finish = some b ∧ w.overlaps a b = true := by
  unfold waitingOverlap
  cases o.start <;> cases o.finish <;> simp

/-- What is removed first: the entry and the held window of the ASK's window id (R79, R100). -/
theorem dropWindow_cleared (id : WinId) (s : State) :
    let cleared := dropWindow id s
    let held := s.win.held.filter fun e => decide (e.id ≠ id)
    let list := s.win.list.filter fun e => decide (e.id ≠ id)
    let unexpired := held.filter fun x => later x.finish s.reading
    ((∀ e ∈ s.win.list, e.id ≠ id) → cleared.win.list = s.win.list ∧ cleared.win.held = held) ∧
    ((∃ e ∈ s.win.list, e.id = id) →
      (unexpired = [] → cleared.win.list = list ∧ cleared.win.held = []) ∧
      ∀ h hs, unexpired = h :: hs → list.length < 8 →
        ∃ l1 l2, list.filter (fun e => decide (e.id ≠ h.id)) = l1 ++ l2 ∧ (∀ x ∈ l1, later x.start h.start = false) ∧
          (∀ x, l2.head? = some x → later x.start h.start = true) ∧
          cleared.win.list = l1 ++ h :: l2 ∧ cleared.win.held = hs) := by
  intro cleared held list unexpired
  refine ⟨fun habsent => ?_, fun hpresent => ⟨fun hnone => ?_, fun h hs hsome hroom => ?_⟩⟩
  · rw [show cleared = _ from dropWindow_absent habsent]
    exact ⟨rfl, rfl⟩
  · have hfree := freePlace_nil (w := { s.win with held := held, list := list }) hnone
    rw [show cleared = _ from (dropWindow_present hpresent).trans (congrArg s.withWin hfree)]
    exact ⟨rfl, rfl⟩
  · obtain ⟨l1, l2, hlist, hbefore, hbehind, hplace⟩ := insertEntry_place h (without h.id list)
    have hlen : (without h.id list).length < 8 := Nat.lt_of_le_of_lt (List.length_filter_le ..) hroom
    have hfree := (freePlace_cons (w := { s.win with held := held, list := list }) hsome).trans (if_pos hlen)
    rw [show cleared = _ from (dropWindow_present hpresent).trans (congrArg s.withWin hfree)]
    exact ⟨l1, l2, hlist, hbefore, hbehind, hplace, rfl⟩

/-- Settles O40: an ASK ignored, what is removed first, and the decision's cases. -/
theorem askIsDecided : Obligations.AskIsDecided := by
  intro r s hheard hkind hother p id ignored
  have hexec : exec .askReceived s = .next (takeAsk (frameOf r.chars) r (ended s)) :=
    congrArg Host.Outcome.next (commitFrame_other hheard (isKind_of_eq hkind) hother)
  have hid : WinId.ofByte (p.getD 0 0) = id := ofByte_eq _
  have hmeets : ¬ ignored ↔ natAt 1 1 p ∈ [1, 2] ∧ AskMeets (frameOf r.chars) (ended s) := by
    unfold AskMeets
    rw [show (frameOf r.chars).payload = p from rfl, hid]
    simp only [ignored, not_or, not_not, Bool.not_eq_false]
    constructor
    · exact fun ⟨hlen, hcls, hst, hdur, hset⟩ => ⟨hcls, hlen, hst, hdur, hset⟩
    · exact fun ⟨hcls, hlen, hst, hdur, hset⟩ => ⟨hlen, hcls, hst, hdur, hset⟩
  refine ⟨fun h => ?_, fun lead h hlead => ?_⟩
  · rw [hexec, takeAsk_ignored fun hm => hmeets.mpr hm h]
  · obtain ⟨hcls, hm⟩ := hmeets.mp h
    obtain ⟨cleared, hcleared⟩ : ∃ cleared, cleared = dropWindow id (ended s) := ⟨_, rfl⟩
    have hframe := hcleared ▸ dropWindow_frame id (ended s)
    refine ⟨cleared, hframe, hcleared ▸ dropWindow_cleared id (ended s), ?_⟩
    intro start w meets waitingOver conflicts deferred refused
    have htaken : exec .askReceived s = .next (decideAsk w r.leadTick cleared) := by
      rw [hcleared, hexec, takeAsk_taken hcls hm, show (ended s).win.leadCap = some lead from hlead,
        show (frameOf r.chars).payload = p from rfl, hid]
      rfl
    have hown : cleared.win.own = s.win.own := by rw [hframe]; rfl
    have hstation : cleared.cfg.station = s.cfg.station := by rw [hframe]; rfl
    have hqueue : cleared.line.queue = s.line.queue := by rw [hframe]; rfl
    have hprot : cleared.win.protectedIntervals = s.win.ownProt.toList ++ s.win.counting := by rw [hframe]; rfl
    have hconflicts : cleared.win.protectedIntervals.filter w.overlapsProt = conflicts := by rw [hprot]; rfl
    have hwaiting : waitingOverlap w cleared.win.own = true ↔ waitingOver := by rw [hown]; exact waitingOverlap_iff
    refine ⟨fun hroom conflictEnd guarded => ?_, fun hforced => ?_, fun hforced =>
      ⟨fun hover => ⟨fun hby => ?_, fun howned hlower => ?_⟩, fun hover => ?_⟩⟩
    · refine (joinQueue_room _ (by rw [hqueue]; exact hroom)).trans ?_
      rw [hqueue]
      rfl
    · rw [htaken, decideAsk_forced hforced]
    · rw [htaken, decideAsk_waiting_refused hforced (hwaiting.mpr hover) (by rw [hown, hstation]; exact hby), hown]
      rfl
    · rw [htaken, decideAsk_waiting_givesWay hforced (hwaiting.mpr hover) (by rw [hown]; exact howned)
        (by rw [hstation]; exact hlower)]
    · have hover' := Bool.eq_false_iff.mpr fun hc => hover (hwaiting.mp hc)
      refine ⟨fun q qs hq => ?_, fun hnone => ?_⟩
      · rw [htaken, decideAsk_protected hforced hover' (hconflicts.trans hq)]
        rfl
      · have hfree := decideAsk_free (lead := r.leadTick) hforced hover' (hconflicts.trans hnone)
        refine ⟨fun hroom => ?_, fun e es hlist hfull => ?_⟩
        · rw [htaken, hfree, if_neg (Nat.not_le.mpr hroom)]
        · rw [htaken, hfree, if_pos hfull, hlist]
          rfl

end Sys2Proof.Machine
end

section
/-! The own window's start and end. -/

namespace Sys2Proof.Machine

variable {s t u : State}

/-! ## A compensation change (R112) -/

theorem Triple.get_set_same {α : Type} (p : Triple α) (c : Comp) (v : α) : (p.set c v).get c = v :=
  (Triple.get_set p c c v).trans (if_pos rfl)

theorem Triple.get_set_ne {α : Type} (p : Triple α) {c d : Comp} (v : α) (h : d ≠ c) : (p.set c v).get d = p.get d :=
  (Triple.get_set p c d v).trans (if_neg h)

theorem Conversions.get_set (v : Conversions) (k l : Converter) (x : Option Conversion) :
    (v.set k x).get l = if l = k then x else v.get l := by cases k <;> cases l <;> rfl

theorem Conversions.get_set_same (v : Conversions) (k : Converter) (x : Option Conversion) : (v.set k x).get k = x :=
  (Conversions.get_set v k k x).trans (if_pos rfl)

theorem Conversions.get_set_ne (v : Conversions) {k l : Converter} (x : Option Conversion) (h : l ≠ k) :
    (v.set k x).get l = v.get l := (Conversions.get_set v k l x).trans (if_neg h)

theorem Comp.converter_injective {c d : Comp} (h : c.converter = d.converter) : c = d := by
  revert h
  cases c <;> cases d <;> decide

/-- The Acquisition Unit's part of a component's change. -/
def Acquisition.changed (c : Comp) (d : Dir) (a : Acquisition) : Acquisition :=
  { a with
    steps := a.steps.set c (a.steps.get c + d.sign)
    pendingDir := a.pendingDir.set c none
    conversions := a.conversions.set c.converter ((a.conversions.get c.converter).map Conversion.markChanged) }

theorem changeIf_some {set : Triple Bool} {c : Comp} {d : Dir} (hset : set.get c = true)
    (h : s.acq.pendingDir.get c = some d) : changeIf set c s =
      commitNote (.comp c (s.acq.steps.get c + d.sign)) (s.withAcq (s.acq.changed c d)) := by
  unfold changeIf changeComponent
  rw [if_pos hset, h]
  rfl

theorem changeIf_none {set : Triple Bool} {c : Comp} (h : set.get c = false ∨ s.acq.pendingDir.get c = none) :
    changeIf set c s = s := by
  unfold changeIf changeComponent
  obtain h | h := h
  · rw [h]
    exact if_neg Bool.false_ne_true
  · rw [h]
    exact ite_self s

/-- A component's steps, pending direction and conversion stay. -/
def CompKept (a a' : Acquisition) (c : Comp) : Prop :=
  a'.steps.get c = a.steps.get c ∧ a'.pendingDir.get c = a.pendingDir.get c ∧
    a'.conversions.get c.converter = a.conversions.get c.converter

/-- A component of the set takes its pending direction, and any other stays. -/
def CompChanged (set : Triple Bool) (a a' : Acquisition) (c : Comp) : Prop :=
  (∀ d, set.get c = true → a.pendingDir.get c = some d →
    a'.steps.get c = a.steps.get c + (if d = .up then 1 else -1) ∧ a'.pendingDir.get c = none ∧
    ∀ v smp, a.conversions.get c.converter = some v → v.job = .field c smp → v.outstanding = true →
      a'.conversions.get c.converter = some { v with job := .field c { smp with changed := true } }) ∧
  (set.get c = false ∨ a.pendingDir.get c = none → CompKept a a' c)

theorem CompKept.refl (a : Acquisition) (c : Comp) : CompKept a a c := ⟨rfl, rfl, rfl⟩

theorem CompKept.trans {a b e : Acquisition} {c : Comp} (h : CompKept a b c) (h' : CompKept b e c) : CompKept a e c :=
  ⟨h'.1.trans h.1, h'.2.1.trans h.2.1, h'.2.2.trans h.2.2⟩

theorem CompKept.changed {set : Triple Bool} {a b e f : Acquisition} {c : Comp} (h : CompKept a b c)
    (h' : CompChanged set b e c) (h'' : CompKept e f c) : CompChanged set a f c := by
  obtain ⟨hsteps, hdir, hconv⟩ := h
  obtain ⟨htaken, hleft⟩ := h'
  refine ⟨fun d hset hd => ?_, fun hnone => ?_⟩
  · obtain ⟨hs, hp, hv⟩ := htaken d hset (hdir.trans hd)
    exact ⟨h''.1.trans (hs.trans (by rw [hsteps])), h''.2.1.trans hp,
      fun v smp hv' hjob hout => h''.2.2.trans (hv v smp (hconv.trans hv') hjob hout)⟩
  · exact (CompKept.trans ⟨hsteps, hdir, hconv⟩ (hleft (by rw [hdir]; exact hnone))).trans h''

theorem Conversion.markChanged_field {v : Conversion} {c : Comp} {smp : Sample} (hjob : v.job = .field c smp)
    (hout : v.outstanding = true) : v.markChanged = { v with job := .field c { smp with changed := true } } := by
  unfold Conversion.markChanged
  rw [hjob]
  exact if_pos hout

theorem commitNote_acq (n : Note) (s : State) : (commitNote n s).acq = s.acq := setFlagIf_acq _ _ _

theorem changeIf_changed (set : Triple Bool) (c : Comp) (s : State) :
    CompChanged set s.acq (changeIf set c s).acq c := by
  refine ⟨fun d hset hd => ?_, fun h => by rw [changeIf_none h]; exact CompKept.refl _ c⟩
  rw [changeIf_some hset hd, commitNote_acq]
  refine ⟨(Triple.get_set_same ..).trans (by cases d <;> rfl), Triple.get_set_same .., fun v smp hv hjob hout => ?_⟩
  refine (Conversions.get_set_same ..).trans ?_
  rw [hv, Option.map_some, Conversion.markChanged_field hjob hout]

theorem changeIf_kept (set : Triple Bool) {c c' : Comp} (s : State) (h : c' ≠ c) :
    CompKept s.acq (changeIf set c s).acq c' := by
  by_cases hset : set.get c = true
  · cases hd : s.acq.pendingDir.get c with
    | none => rw [changeIf_none (Or.inr hd)]; exact CompKept.refl _ c'
    | some d =>
      rw [changeIf_some hset hd, commitNote_acq]
      exact ⟨Triple.get_set_ne _ _ h, Triple.get_set_ne _ _ h,
        Conversions.get_set_ne _ _ fun hk => h (Comp.converter_injective hk)⟩
  · rw [changeIf_none (Or.inl (Bool.eq_false_iff.mpr hset))]
    exact CompKept.refl _ c'

/-- What a compensation change leaves alone. -/
structure Compensated (s t : State) : Prop where
  env : t.env = s.env
  win : t.win = s.win
  agr : t.agr = s.agr
  ref : t.ref = s.ref
  corr : t.corr = s.corr
  ownWin : t.acq.ownWin = s.acq.ownWin
  port : t.acq.port = s.acq.port
  portQueue : t.acq.portQueue = s.acq.portQueue

theorem Compensated.refl (s : State) : Compensated s s := ⟨rfl, rfl, rfl, rfl, rfl, rfl, rfl, rfl⟩

theorem Compensated.trans (h : Compensated s t) (h' : Compensated t u) : Compensated s u :=
  ⟨h'.env.trans h.env, h'.win.trans h.win, h'.agr.trans h.agr, h'.ref.trans h.ref, h'.corr.trans h.corr,
    h'.ownWin.trans h.ownWin, h'.port.trans h.port, h'.portQueue.trans h.portQueue⟩

theorem compensated_setFlagIf (b : Bool) (f : Flag) (s : State) : Compensated s (setFlagIf b f s) := by
  have hacq := setFlagIf_acq b f s
  exact ⟨setFlagIf_env b f s, setFlagIf_win b f s, setFlagIf_agr b f s, setFlagIf_ref b f s, setFlagIf_corr b f s,
    by rw [hacq], by rw [hacq], by rw [hacq]⟩

theorem compensated_changeIf (set : Triple Bool) (c : Comp) (s : State) : Compensated s (changeIf set c s) := by
  by_cases hset : set.get c = true
  · cases hd : s.acq.pendingDir.get c with
    | none => rw [changeIf_none (Or.inr hd)]; exact Compensated.refl s
    | some d =>
      rw [changeIf_some hset hd]
      refine Compensated.trans (t := (s.withAcq (s.acq.changed c d)).withRing
        (s.ring.add (noteRecord (.comp c (s.acq.steps.get c + d.sign)) (s.withAcq (s.acq.changed c d))))) ?_
        (compensated_setFlagIf _ _ _)
      exact ⟨rfl, rfl, rfl, rfl, rfl, rfl, rfl, rfl⟩
  · rw [changeIf_none (Or.inl (Bool.eq_false_iff.mpr hset))]
    exact Compensated.refl s

/-- The COMP note that a component's change commits, if it has one. -/
def compNote (set : Triple Bool) (a a' : Acquisition) (s : State) (c : Comp) : Option Record :=
  if set.get c then (a.pendingDir.get c).map fun _ => noteOf (.comp c (a'.steps.get c)) s else none

theorem compNote_congr {set : Triple Bool} {a a' b b' : Acquisition} {c : Comp}
    (hdir : b.pendingDir.get c = a.pendingDir.get c) (hsteps : b'.steps.get c = a'.steps.get c)
    (henv : t.env = s.env) : compNote set b b' t c = compNote set a a' s c := by
  unfold compNote noteOf State.reading
  rw [hdir, hsteps, clock_of_env henv, cfg_of_env henv]

theorem changeIf_records (set : Triple Bool) (c : Comp) (hroom : s.ring.records.length < 16384) :
    (changeIf set c s).ring.records = s.ring.records ++ (compNote set s.acq (changeIf set c s).acq s c).toList := by
  unfold compNote
  by_cases hset : set.get c = true
  · rw [if_pos hset]
    cases hd : s.acq.pendingDir.get c with
    | none => rw [changeIf_none (Or.inr hd), Option.map_none]; exact (List.append_nil _).symm
    | some d =>
      have hsteps : (s.withAcq (s.acq.changed c d)).acq.steps.get c = s.acq.steps.get c + d.sign := Triple.get_set_same ..
      rw [changeIf_some hset hd, commitNote_acq, Option.map_some, hsteps, commitNote,
        commit_of_room (s := s.withAcq (s.acq.changed c d)) _ hroom]
      exact congrArg (s.ring.records ++ [·]) (noteRecord_congr (t := s) _ rfl rfl)
  · rw [if_neg hset, changeIf_none (Or.inl (Bool.eq_false_iff.mpr hset))]
    exact (List.append_nil _).symm

theorem length_compNote (set : Triple Bool) (a a' : Acquisition) (s : State) (c : Comp) :
    (compNote set a a' s c).toList.length ≤ 1 := by
  cases compNote set a a' s c <;> simp

theorem anyPending_iff (set : Triple Bool) (p : Triple (Option Dir)) :
    anyPending set p = true ↔ ∃ c : Comp, set.get c = true ∧ p.get c ≠ none := by
  unfold anyPending
  simp only [Bool.or_eq_true, Bool.and_eq_true, Option.isSome_iff_ne_none]
  constructor
  · rintro ((h | h) | h)
    · exact ⟨.x, h⟩
    · exact ⟨.y, h⟩
    · exact ⟨.z, h⟩
  · rintro ⟨c, h⟩
    cases c with
    | x => exact Or.inl (Or.inl h)
    | y => exact Or.inl (Or.inr h)
    | z => exact Or.inr h

theorem filterMap_comps {α : Type} (f : Comp → Option α) :
    [Comp.x, .y, .z].filterMap f = (f .x).toList ++ ((f .y).toList ++ (f .z).toList) := by
  simp only [List.filterMap_cons, List.filterMap_nil]
  cases f .x <;> cases f .y <;> cases f .z <;> rfl

/-- A compensation change, component by component. -/
theorem compensationChange_spec (set : Triple Bool) (s : State) :
    Compensated s (compensationChange set s) ∧ (∀ c, CompChanged set s.acq (compensationChange set s).acq c) ∧
    ((∃ c : Comp, set.get c = true ∧ s.acq.pendingDir.get c ≠ none) →
      flagIsSet .compStepped (compensationChange set s) = true) ∧
    (s.ring.records.length + 3 ≤ 16384 → (compensationChange set s).ring.records =
      s.ring.records ++ [Comp.x, .y, .z].filterMap (compNote set s.acq (compensationChange set s).acq s)) := by
  unfold compensationChange
  generalize hb : anyPending set s.acq.pendingDir = b
  rw [setFlagIf_acq, setFlagIf_ring]
  obtain ⟨s1, hs1⟩ : ∃ s1, s1 = changeIf set .x s := ⟨_, rfl⟩
  obtain ⟨s2, hs2⟩ : ∃ s2, s2 = changeIf set .y s1 := ⟨_, rfl⟩
  obtain ⟨s3, hs3⟩ : ∃ s3, s3 = changeIf set .z s2 := ⟨_, rfl⟩
  rw [← hs1, ← hs2, ← hs3]
  have h1 : Compensated s s1 := hs1 ▸ compensated_changeIf set .x s
  have h2 : Compensated s1 s2 := hs2 ▸ compensated_changeIf set .y s1
  have h3 : Compensated s2 s3 := hs3 ▸ compensated_changeIf set .z s2
  have hk1 : ∀ c ≠ Comp.x, CompKept s.acq s1.acq c := fun c hc => hs1 ▸ changeIf_kept set s hc
  have hk2 : ∀ c ≠ Comp.y, CompKept s1.acq s2.acq c := fun c hc => hs2 ▸ changeIf_kept set s1 hc
  have hk3 : ∀ c ≠ Comp.z, CompKept s2.acq s3.acq c := fun c hc => hs3 ▸ changeIf_kept set s2 hc
  have hkept : ∀ c, CompKept s.acq s.acq c := CompKept.refl s.acq
  refine ⟨((h1.trans h2).trans h3).trans (compensated_setFlagIf _ _ _), fun c => ?_, fun h => ?_, fun hroom => ?_⟩
  · cases c with
    | x => exact (hkept .x).changed (hs1 ▸ changeIf_changed set .x s) ((hk2 .x nofun).trans (hk3 .x nofun))
    | y => exact (hk1 .y nofun).changed (hs2 ▸ changeIf_changed set .y s1) (hk3 .y nofun)
    | z => exact ((hk1 .z nofun).trans (hk2 .z nofun)).changed (hs3 ▸ changeIf_changed set .z s2) (CompKept.refl _ .z)
  · exact (flagIsSet_setFlagIf _ _ _ _).mpr (Or.inr ⟨hb.symm.trans ((anyPending_iff _ _).mpr h), rfl⟩)
  · have hr1 := changeIf_records set .x (s := s) (by omega)
    have hl1 := length_compNote set s.acq (changeIf set .x s).acq s .x
    rw [← hs1] at hr1 hl1
    have hroom1 := congrArg List.length hr1
    rw [List.length_append] at hroom1
    have hr2 := changeIf_records set .y (s := s1) (by omega)
    have hl2 := length_compNote set s1.acq (changeIf set .y s1).acq s1 .y
    rw [← hs2] at hr2 hl2
    have hroom2 := congrArg List.length hr2
    rw [List.length_append] at hroom2
    have hr3 := changeIf_records set .z (s := s2) (by omega)
    rw [← hs3] at hr3
    have hx := compNote_congr (set := set) (a := s.acq) (b := s.acq) (t := s) rfl ((hk2 .x nofun).trans (hk3 .x nofun)).1 rfl
    have hy := compNote_congr (set := set) (hk1 .y nofun).2.1 (hk3 .y nofun).1.symm h1.env
    have hz := compNote_congr (set := set) ((hk1 .z nofun).trans (hk2 .z nofun)).2.1 (a' := s3.acq) rfl (h1.trans h2).env
    rw [hr3, hr2, hr1, ← hx, hy, hz, filterMap_comps, List.append_assoc, List.append_assoc]

/-! ## The own window's start (R73, R89, R112, R119) -/

theorem windowStart_due {a : NodeTime} (hrun : s.running = true) (hstate : s.win.own.state = .granted)
    (hstart : s.win.own.start = some a) (ha : s.reached a = true)
    (hqueue : ∀ q ∈ s.line.queue, q.withdrawDue s = false) : exec .windowStart s = .next (openWindow s) := by
  have hkept : removeWithdraws s = s := by
    unfold removeWithdraws
    rw [if_pos hrun, List.filter_eq_self.mpr fun q hq => by rw [hqueue q hq]; rfl]
    rfl
  have hdue : startDue s = true := by
    unfold startDue
    rw [hrun, hstate, hstart, Option.any_some, ha]
    rfl
  show Host.Outcome.next (if startDue s = true then openWindow (removeWithdraws s) else removeWithdraws s) = _
  rw [if_pos hdue, hkept]

theorem windowStart_other (hrun : s.running = true) (hstate : s.win.own.state ≠ .granted) :
    exec .windowStart s =
      .next (s.withLine { s.line with queue := s.line.queue.filter fun q => !q.withdrawDue s }) := by
  have hdue : ¬ startDue s = true := by
    unfold startDue
    rw [hrun, decide_eq_false hstate]
    exact Bool.false_ne_true
  show Host.Outcome.next (if startDue s = true then openWindow (removeWithdraws s) else removeWithdraws s) = _
  rw [if_neg hdue]
  exact congrArg Host.Outcome.next (if_pos hrun)

theorem openWindow_polarize {cycle : NodeTime} (h : s.win.own.cause = .polarize cycle) : openWindow s =
    polarizeOn (s.win.own.finish.getD 0)
      (s.withWin { s.win with own := { s.win.own with state := .opened } }) := by
  unfold openWindow
  dsimp only
  rw [h]

theorem openWindow_compStep {set : Triple Bool} (h : s.win.own.cause = .compStep set) : openWindow s =
    compensationChange set
      ((s.withWin { s.win with
        own := { s.win.own with state := .opened, cause := .compStep (Triple.all false) } }).withAcq
        { s.acq with
          ownWin :=
            some { start := s.win.own.start.getD 0, finish := s.win.own.finish.getD 0, mark := false, isOpen := true } }) := by
  unfold openWindow
  dsimp only
  rw [h]

theorem cutOffCounting_none (h : ∀ m, s.acq.measuring = some m → m.stage = .polarizing) : cutOffCounting s = s := by
  unfold cutOffCounting
  cases hm : s.acq.measuring with
  | none => rfl
  | some m =>
    obtain ⟨w, stage⟩ := m
    obtain rfl : stage = .polarizing := h _ hm
    rfl

theorem cutOffCounting_some {w o e : NodeTime} (h : s.acq.measuring = some { windowEnd := w, stage := .counting o e }) :
    cutOffCounting s = handReading (plus o (s.cfg.count * 500000 : Nat)) .missing (phaseMark s e) s := by
  unfold cutOffCounting
  rw [h]
  rfl

/-- The asked cycle measured, and polarize on, once a cycle under way has been cut off. -/
def Acquisition.polarizing (b : NodeTime) (a : Acquisition) : Acquisition :=
  { a with asked := none, measuring := some { windowEnd := b, stage := .polarizing }, polarizeOut := true, countOut := false }

theorem polarizeOn_eq (b : NodeTime) (s : State) :
    polarizeOn b s = (cutOffCounting s).withAcq ((cutOffCounting s).acq.polarizing b) := rfl

/-! ## The own window's end (R89, R92, R114, R120) -/

theorem windowEnd_due {b : NodeTime} (hrun : s.running = true) (hstate : s.win.own.state = .opened)
    (hend : s.win.own.finish = some b) (hb : s.reached b = true) : exec .windowEnd s = .next (afterEnd (tellEnd s)) := by
  have hdue : endDue s = true := by
    unfold endDue
    rw [hrun, hstate, hend, Option.any_some, hb]
    rfl
  show Host.Outcome.next (if endDue s = true then afterEnd (tellEnd s) else s) = _
  rw [if_pos hdue]

theorem tellEnd_polarize {cycle b : NodeTime} (h : s.win.own.cause = .polarize cycle) (hend : s.win.own.finish = some b) :
    tellEnd s = openGate b (s.withWin { s.win with
      ownProt := none
      counting := s.win.counting.map fun p => if p.start = b then { p with mark := p.mark || ownMark s } else p }) := by
  unfold tellEnd
  rw [h, hend]
  rfl

theorem tellEnd_compStep {set : Triple Bool} (h : s.win.own.cause = .compStep set) :
    tellEnd s = (s.withWin { s.win with ownProt := none }).withAcq
      { s.acq with ownWin := s.acq.ownWin.map fun w => { w with mark := ownMark s, isOpen := false } } := by
  unfold tellEnd
  rw [h]

/-- The window's end leaves the record, the settings and the queue to what follows. -/
theorem tellEnd_kept (s : State) : (tellEnd s).win.own = s.win.own ∧ (tellEnd s).cfg = s.cfg ∧
    (tellEnd s).line = s.line := by
  unfold tellEnd
  dsimp only
  split <;> exact ⟨rfl, rfl, rfl⟩

theorem handAsk_queue (h : s.line.queue.length < 4) : (handAsk s).line.queue = s.line.queue ++
    [Queued.fresh (.ask { station := s.cfg.station, seq := s.win.own.seq } s.win.own.cause.cls
      (s.cfg.duration s.win.own.cause.cls) (s.cfg.affect s.win.own.cause.cls))] := by
  unfold handAsk
  dsimp only
  rw [joinQueue_room _ (by rw [State.withWin_line]; exact h), State.withLine_line, State.withWin_line]

theorem anyComp_eq_false {p : Triple Bool} : anyComp p = false ↔ p = { x := false, y := false, z := false } := by
  obtain ⟨x, y, z⟩ := p
  cases x <;> cases y <;> cases z <;> decide

theorem afterEnd_none (h : s.win.own.nextComps = { x := false, y := false, z := false }) :
    afterEnd s = s.withWin { s.win with own := s.win.own.ended } :=
  if_neg (by rw [anyComp_eq_false.mpr h]; exact Bool.false_ne_true)

theorem afterEnd_next (h : s.win.own.nextComps ≠ { x := false, y := false, z := false }) :
    afterEnd s = handAsk (s.withWin { s.win with own := { s.win.own with
      cause := .compStep s.win.own.nextComps, nextComps := Triple.all false, attempts := 0 } }) :=
  if_pos (Bool.not_eq_false _ ▸ mt anyComp_eq_false.mp h)

/-- A hand-over told of other states with the same ring, the same clock and settings, probes, marker and last tag. -/
theorem HandedOver.congr {tag : NodeTime} {d m k sat : Bool} {v : Option Int} {s' t' : State}
    (h : HandedOver tag d m k sat v s t) (henv : s'.env = s.env) (hprobes : s'.acq.probes = s.acq.probes)
    (hstepped : s'.acq.stepped = s.acq.stepped) (hs : s'.ring.records = s.ring.records)
    (ht : t'.ring.records = t.ring.records) (hstepped' : t'.acq.stepped = t.acq.stepped)
    (hlast : t'.acq.lastTag = t.acq.lastTag) : HandedOver tag d m k sat v s' t' := by
  unfold HandedOver RecordTemperature Acquisition.probe State.reading at *
  rw [clock_of_env henv, cfg_of_env henv, hprobes, hstepped, hs, ht, hstepped', hlast]
  exact h

/-- Settles O46: the start of a POLARIZE and of a COMP_STEP window, no own window granted, and the end. -/
theorem ownWindowOpensAndEnds : Obligations.OwnWindowOpensAndEnds := by
  refine ⟨fun a b s hrun hstate hstart ha hfinish hqueue => ?start, fun s hrun hstate => ?other,
    fun b s hrun hstate hfinish hb => ?finish⟩
  case start =>
    rw [windowStart_due hrun hstate hstart ha hqueue]
    refine ⟨fun cycle hc hm => ?_, fun cycle w o e hc hm => ?_, fun set hc => ?_⟩
    · rw [openWindow_polarize hc, hfinish, Option.getD_some, polarizeOn_eq, cutOffCounting_none (by exact hm)]
      rfl
    · intro tag mark begun opened
      rw [openWindow_polarize hc, hfinish, Option.getD_some, polarizeOn_eq]
      obtain ⟨s1, hs1⟩ : ∃ s1, s1 = s.withWin opened := ⟨_, rfl⟩
      have hcut : cutOffCounting s1 = handReading tag .missing mark s1 := by
        rw [hs1]
        exact cutOffCounting_some hm
      refine ⟨fun hn => ?_, fun hh hroom => ?_⟩
      · have hkept : cutOffCounting s1 = s1 := hcut.trans (handReading_discarded _ _ (by rw [hs1]; exact hn))
        rw [← hs1, hkept, hs1]
        rfl
      · obtain ⟨hover, hbanked, -, -⟩ := handReading_spec (s := s1) .missing mark (plus_lt_circle _ _)
          (by rw [hs1]; exact hh) (by rw [hs1]; exact hroom)
        refine ⟨_, rfl, ?_, ?_, ?_⟩
        · rw [← hs1, hcut, State.withAcq_win, hbanked.win, hs1]
          rfl
        · rw [← hs1, hcut, State.withAcq_acq, hbanked.acq, hs1, tagTime_eq]
          rfl
        · rw [← hs1, hcut]
          exact hover.congr (by rw [hs1]; rfl) (by rw [hs1]; rfl) (by rw [hs1]; rfl) (by rw [hs1]; rfl) rfl rfl rfl
    · rw [openWindow_compStep hc, hstart, hfinish, Option.getD_some, Option.getD_some]
      obtain ⟨hkept, hcomps, hflag, hrecords⟩ := compensationChange_spec set
        ((s.withWin { s.win with own := { s.win.own with state := .opened, cause := .compStep (Triple.all false) } }).withAcq
          { s.acq with ownWin := some { start := a, finish := b, mark := false, isOpen := true } })
      exact ⟨_, rfl, hkept.win, hkept.ownWin, hcomps, hflag, hrecords, hkept.port, hkept.portQueue,
        clock_of_env hkept.env, cfg_of_env hkept.env, hkept.corr, hkept.agr, hkept.ref⟩
  case other =>
    rw [windowStart_other hrun hstate]
    have hfilter : (fun q : Queued => !q.withdrawDue s) = fun q =>
        !(!q.inAttempt && match q.frame with
          | .withdraw _ start => s.reached start
          | .ask _ _ _ _ | .defer _ _ _ _ _ => false) := by
      funext q
      unfold Queued.withdrawDue Queued.idleWithdraw
      cases q.frame <;> simp
    rw [hfilter]
    rfl
  case finish =>
    rw [windowEnd_due hrun hstate hfinish hb]
    obtain ⟨hown, hcfg, hline⟩ := tellEnd_kept s
    refine ⟨fun hnone => ⟨fun cycle hc => ?_, fun set hc => ?_⟩, fun hnext hroom => ?_⟩
    · rw [afterEnd_none (by rw [hown]; exact hnone), tellEnd_polarize hc hfinish]
      rfl
    · rw [afterEnd_none (by rw [hown]; exact hnone), tellEnd_compStep hc]
      rfl
    · rw [afterEnd_next (by rw [hown]; exact hnext)]
      refine ⟨_, rfl, ?_, ?_⟩
      · rw [handAsk_own, State.withWin_win, hown]
        rfl
      · rw [handAsk_queue (by exact hline ▸ hroom)]
        rw [State.withWin_line, hline, State.withWin_cfg, hcfg, State.withWin_win, hown]
        rfl

end Sys2Proof.Machine
end

section
/-! Trigger instants and probe scans. -/

namespace Sys2Proof.Machine

variable {s t u : State}

/-! ## New conversions (R106) -/

theorem endConversion_none {k : Converter} (h : s.acq.conversions.get k = none) : endConversion k s = s := by
  unfold endConversion
  rw [h]

theorem endConversion_some {k : Converter} {v : Conversion} (h : s.acq.conversions.get k = some v) :
    endConversion k s = missingResult v.job (s.withAcq (s.acq.setConv k none)) := by
  unfold endConversion
  rw [h]

/-- The sample that a component's conversion takes at an instant. -/
def sampleAt (answer : BlankAnswer) (serves : Serves) (c : Comp) (s : State) : Sample :=
  { serves := serves, steps := s.acq.steps.get c, blanked := answer.blanked, blankAll := answer.blankAll
    byCompStep := answer.byCompStep, changed := false }

theorem beginSample_free {c : Comp} (answer : BlankAnswer) (serves : Serves)
    (h : s.acq.conversions.get c.converter = none) : beginSample answer serves c s =
      s.withAcq (s.acq.begin c.converter (.field c (sampleAt answer serves c s)) false 0) := by
  unfold beginSample
  rw [endConversion_none h]
  rfl

/-! ## A trigger instant (R101, R107, R124) -/

theorem triggerInstant_due (hrun : s.running = true) (hrole : s.cfg.role = .vector) (hhold : s.acq.scanHold = false)
    (hx : s.reached s.acq.nextTrigger = true) : exec .triggerInstant s = .next (trigger s) := by
  have hdue : triggerDue s = true := by
    unfold triggerDue
    rw [hrun, hrole, hhold, hx]
    rfl
  show Host.Outcome.next (if triggerDue s = true then trigger s else s) = _
  rw [if_pos hdue]

/-- What a trigger instant makes of the second and of the sample's service. -/
def triggered (serves : Serves) (gathering : Option Gathering) (s : State) : State :=
  let s' := s.withAcq { s.acq with nextTrigger := plus s.acq.nextTrigger 100000000, gathering := gathering }
  let answer := blankQuery s.acq.nextTrigger s
  beginSample answer serves .z (beginSample answer serves .y (beginSample answer serves .x s'))

theorem trigger_collected (h : collects (secondOfInstant s.acq.nextTrigger) s.acq = true) :
    trigger s = triggered (.second (secondOfInstant s.acq.nextTrigger))
      ((gatherAt (secondOfInstant s.acq.nextTrigger) s.acq).map Gathering.collect) s := by
  unfold trigger triggered
  dsimp only
  rw [h]
  rfl

theorem trigger_uncollected (h : collects (secondOfInstant s.acq.nextTrigger) s.acq = false) :
    trigger s = triggered .uncollected s.acq.gathering s := by
  unfold trigger triggered
  dsimp only
  rw [h]
  rfl

theorem append_three {α : Type} (l : List α) (a b c : α) : l ++ [a, b, c] = l ++ [a] ++ [b] ++ [c] := by
  rw [List.append_assoc, List.append_assoc]
  rfl

theorem secondsOf_plus (t : Nat) (c : Int) : secondsOf (plus t c) = plus t c / 1000000000 := by
  rw [secondsOf, Nat.mod_eq_of_lt (plus_lt_circle t c)]

theorem afterLastClosed_iff {second : Nat} {last : Option Nat} :
    afterLastClosed second last = true ↔ ∀ l, last = some l → 0 < secondsDifference second l := by
  unfold afterLastClosed
  cases last <;> simp

theorem collects_iff {second : Nat} {a : Acquisition} : collects second a = true ↔
    (∀ l, a.lastClosed = some l → 0 < secondsDifference second l) ∧ ∀ g, a.gathering = some g → g.second = second := by
  rw [← afterLastClosed_iff]
  unfold collects gatherAt
  cases hafter : afterLastClosed second a.lastClosed with
  | false => simp
  | true => cases a.gathering <;> simp

theorem gatherAt_none {second : Nat} {a : Acquisition} (hc : collects second a = true) (h : a.gathering = none) :
    gatherAt second a = some { second := second, acc := Triple.all Accum.empty } := by
  unfold gatherAt
  rw [afterLastClosed_iff.mpr (collects_iff.mp hc).1, h]
  rfl

theorem gatherAt_some {second : Nat} {a : Acquisition} {g : Gathering} (h : a.gathering = some g) :
    gatherAt second a = some g := by
  unfold gatherAt
  rw [h, if_neg (by simp)]

theorem Gathering.collect_eq {g : Gathering} {n : Nat} (h : g.second = n) :
    g.collect = { second := n, acc := g.acc.map fun a => { a with collected := a.collected + 1 } } := by
  rw [← h]
  rfl

/-! ## A probe scan (R115, R116) -/

theorem probeScan_due (hrun : s.running = true) (hrole : s.cfg.role = .vector ∨ s.cfg.role = .scalar)
    (hhold : s.acq.scanHold = false) (hx : s.reached s.acq.nextScan = true) : exec .probeScan s = .next (probeScan s) := by
  have hdue : scanDue s = true := by
    unfold scanDue
    rw [hrun, hhold, hx]
    obtain h | h := hrole <;> rw [h] <;> rfl
  show Host.Outcome.next (if scanDue s = true then probeScan s else s) = _
  rw [if_pos hdue]

/-- A probe's reading that is missing fails it, with its flag if it had not failed before (R116). -/
theorem probeReading_missing (j : Nat) (s : State) : probeReading j none s =
    setFlagIf (decide ((s.acq.probe j).status ≠ .failed)) .probeFail
      (s.withAcq { s.acq with probes := s.acq.probes.set j { s.acq.probe j with status := .failed } }) := rfl

theorem probe_eq {a : Acquisition} {j : Nat} {p : Probe} (h : a.probes[j]? = some p) : a.probe j = p := by
  unfold Acquisition.probe
  rw [List.getD_eq_getElem?_getD, h]
  rfl

theorem missingResult_probe {j : Nat} {p : Probe} (hp : s.acq.probes[j]? = some p) (hstatus : p.status ≠ .failed) :
    missingResult (.probe j) s =
      setFlag .probeFail (s.withAcq { s.acq with probes := s.acq.probes.set j { p with status := .failed } }) := by
  show probeReading j none s = _
  rw [probeReading_missing, probe_eq hp, decide_eq_true hstatus]
  rfl

theorem begin_setFlag (f : Flag) (k : Converter) (job : Job) (s : State) :
    (setFlag f s).withAcq ((setFlag f s).acq.begin k job false 0) = setFlag f (s.withAcq (s.acq.begin k job false 0)) := by
  rw [setFlag_acq, setFlag_withAcq]

/-- The next scan instant set, before the new conversion. -/
def nextScanned (y : NodeTime) (s : State) : State := s.withAcq { s.acq with nextScan := y }

/-- A scan that starts a conversion of the probe. -/
def scannedFor (n : Nat) (y : NodeTime) (s : State) : State :=
  { s with
    acq := { s.acq with
      nextScan := y, serial := s.acq.serial + 1
      conversions := { s.acq.conversions with
        tc := some
          { id := s.acq.serial, job := .probe n, outstanding := false, deadline := 0, nextPoll := none
            readAsked := false } }
      portQueue := s.acq.portQueue ++ [{ conv := .tc, kind := .start, probe := n, id := s.acq.serial }] } }

section Scan

variable {n j : Nat} {y : NodeTime} {v : Conversion} {p : Probe}

theorem scan_free (h : s.acq.conversions.tc = none) :
    (endConversion .tc (nextScanned y s)).withAcq ((endConversion .tc (nextScanned y s)).acq.begin .tc (.probe n) false 0) =
      scannedFor n y s := by
  rw [endConversion_none (k := .tc) (s := nextScanned y s) h]
  rfl

theorem scan_missing (hv : s.acq.conversions.tc = some v) (hjob : v.job = .probe j) (hp : s.acq.probes[j]? = some p)
    (hstatus : p.status ≠ .failed) :
    (endConversion .tc (nextScanned y s)).withAcq ((endConversion .tc (nextScanned y s)).acq.begin .tc (.probe n) false 0) =
      setFlag .probeFail ((scannedFor n y s).withAcq { (scannedFor n y s).acq with
        probes := s.acq.probes.set j { p with status := .failed } }) := by
  rw [endConversion_some (k := .tc) (s := nextScanned y s) hv, hjob, missingResult_probe (by exact hp) hstatus, begin_setFlag]
  rfl

end Scan

theorem probeOfInstant_eq (x : Nat) : probeOfInstant x = (x % 1000000000 - 125000000) / 250000000 := rfl

theorem probeScan_eq (s : State) : probeScan s =
    (endConversion .tc (nextScanned (plus s.acq.nextScan 250000000) s)).withAcq
      ((endConversion .tc (nextScanned (plus s.acq.nextScan 250000000) s)).acq.begin .tc
        (.probe (probeOfInstant s.acq.nextScan)) false 0) := rfl

/-- Settles O47: a trigger instant collected or not, and a probe scan with and without a conversion under way. -/
theorem triggersAndScansStartConversions : Obligations.TriggersAndScansStartConversions := by
  refine fun s hrun hhold => ⟨fun hrole hx h0 h1 h2 => ?trigger, fun hrole hx => ?scan⟩
  case trigger =>
    intro x second covering blankAll collected start started one
    have hstarted : ∀ serves gathering, triggered serves gathering s = started serves gathering := by
      intro serves gathering
      unfold triggered
      dsimp only
      rw [beginSample_free (c := .x) _ _ (by exact h0), beginSample_free (c := .y) _ _ (by exact h1),
        beginSample_free (c := .z) _ _ (by exact h2)]
      dsimp only [started]
      rw [append_three]
      rfl
    have hsecond : secondOfInstant x = second := secondsOf_plus _ _
    have hcollects : collects (secondOfInstant x) s.acq = true ↔ collected := by rw [hsecond]; exact collects_iff
    rw [triggerInstant_due hrun hrole hhold hx]
    refine ⟨fun hc hg => ?_, fun g hc hg => ?_, fun hc => ?_⟩
    · rw [trigger_collected (hcollects.mpr hc), gatherAt_none (hcollects.mpr hc) hg]
      exact congrArg Host.Outcome.next ((hstarted _ _).trans (by rw [hsecond]; rfl))
    · rw [trigger_collected (hcollects.mpr hc), gatherAt_some hg, Option.map_some, Gathering.collect_eq (hc.2 g hg)]
      exact congrArg Host.Outcome.next ((hstarted _ _).trans (by rw [hsecond]))
    · rw [trigger_uncollected (Bool.eq_false_iff.mpr (mt hcollects.mp hc))]
      exact congrArg Host.Outcome.next (hstarted _ _)
  case scan =>
    intro x scanned
    have hscanned : scanned = scannedFor (probeOfInstant s.acq.nextScan) (plus s.acq.nextScan 250000000) s := by
      rw [probeOfInstant_eq]
      rfl
    rw [probeScan_due hrun hrole hhold hx, probeScan_eq, hscanned]
    generalize probeOfInstant s.acq.nextScan = n
    generalize plus s.acq.nextScan 250000000 = y
    exact ⟨fun hnone => congrArg Host.Outcome.next (scan_free hnone),
      fun v j p hv hjob hp hstatus => congrArg Host.Outcome.next (scan_missing hv hjob hp hstatus)⟩

end Sys2Proof.Machine
end

section
/-! The converter port: what is sent, and the transfers of a start, a poll and a read. -/

namespace Sys2Proof.Machine

variable {s t u : State}

/-! ## What the port carries (R199) -/

theorem running_iff : s.running = true ↔ s.loader.phase = .running := decide_eq_true_iff

theorem portBits_cons (b : Byte) (bs : List Byte) :
    portBits (b :: bs) = ((List.range 8).map fun i => b.getLsbD (7 - i)) ++ portBits bs := List.flatMap_cons

theorem length_portBits (bs : List Byte) : (portBits bs).length = 8 * bs.length := by
  induction bs with
  | nil => rfl
  | cons b bs ih =>
    rw [portBits_cons, List.length_append, ih, List.length_map, List.length_range, List.length_cons]
    omega

theorem portBits_getElem? {bs : List Byte} {b : Byte} {i j : Nat} (hb : bs[i]? = some b) (hj : j < 8) :
    (portBits bs)[8 * i + j]? = some (b.getLsbD (7 - j)) := by
  induction bs generalizing i with
  | nil => exact absurd hb nofun
  | cons b' bs ih =>
    have hlen : ((List.range 8).map fun i => b'.getLsbD (7 - i)).length = 8 := by rw [List.length_map, List.length_range]
    rw [portBits_cons]
    cases i with
    | zero =>
      obtain rfl : b' = b := Option.some.inj hb
      rw [List.getElem?_append_left (by omega), List.getElem?_map, List.getElem?_range (by omega), Option.map_some,
        Nat.mul_zero, Nat.zero_add]
    | succ i =>
      rw [List.getElem?_append_right (by omega), hlen, show 8 * (i + 1) + j - 8 = 8 * i + j by omega]
      exact ih hb

theorem selected_readingImage (h : s.loader.phase = .readingImage) :
    s.selected = some .ce ∧ s.portSends = [0x03#8, 0x00#8, 0x00#8] := by
  unfold State.selected State.portSends
  rw [h]
  exact ⟨rfl, rfl⟩

theorem selected_idle (h : s.running = true) (hport : s.acq.port = none) : s.selected = none ∧ s.portSends = [] := by
  unfold State.selected State.portSends
  rw [running_iff.mp h, hport]
  exact ⟨rfl, rfl⟩

theorem selected_transfer {r : Transfer} {began : Nat} (h : s.running = true) (hport : s.acq.port = some (r, began)) :
    s.selected = some (.converter r.conv) ∧ s.portSends = r.sends := by
  unfold State.selected State.portSends
  rw [running_iff.mp h, hport]
  exact ⟨rfl, rfl⟩

theorem selected_held (h : s.running = false) (himage : s.loader.phase ≠ .readingImage) :
    s.selected = none ∧ s.portSends = [] := by
  have hrun : s.loader.phase ≠ .running := of_decide_eq_false h
  unfold State.selected State.portSends
  cases hp : s.loader.phase with
  | held => exact ⟨rfl, rfl⟩
  | readingImage => exact absurd hp himage
  | starting next => exact ⟨rfl, rfl⟩
  | running => exact absurd hp hrun

theorem sck_idle (h : s.selected = none) (n : Nat) : s.sck n = false := by
  unfold State.sck
  rw [h]
  rfl

theorem sck_selected (h : s.selected ≠ none) (n : Nat) : s.sck n = sckAfter n := by
  unfold State.sck
  rw [Option.isSome_iff_ne_none.mpr h]
  rfl

theorem sckAfter_succ (n : Nat) : sckAfter (n + 1) = !sckAfter n := by
  unfold sckAfter
  rw [← decide_not, decide_eq_decide]
  omega

/-! ## Transfers that end (R105, R106) -/

/-- A transfer's bytes have had their time. -/
theorem transferDone_due {k : TransferKind} {r : Transfer} {began : Nat} (hrun : s.running = true)
    (hport : s.acq.port = some (r, began)) (hk : r.kind = k) (htime : began + 40 * transferBytes r.conv k ≤ s.tick) :
    transferDone k s = some r := by
  unfold transferDone
  rw [hport]
  exact if_pos ⟨hrun, hk, htime⟩

theorem conversionOf_some {r : Transfer} {a : Acquisition} {v : Conversion} (h : a.conversions.get r.conv = some v)
    (hid : v.id = r.id) : conversionOf r a = some v := by
  unfold conversionOf
  rw [h, Option.filter_some, if_pos (decide_eq_true hid)]

theorem conversionOf_none {r : Transfer} {a : Acquisition} (h : ∀ v, a.conversions.get r.conv = some v → v.id ≠ r.id) :
    conversionOf r a = none := by
  unfold conversionOf
  cases hv : a.conversions.get r.conv with
  | none => rfl
  | some v => rw [Option.filter_some, if_neg (by rw [decide_eq_true_eq]; exact h v hv)]

theorem startComplete_due {r : Transfer} {began : Nat} {v : Conversion} (hrun : s.running = true)
    (hport : s.acq.port = some (r, began)) (hk : r.kind = .start) (htime : began + 40 ≤ s.tick)
    (hv : s.acq.conversions.get r.conv = some v) (hid : v.id = r.id) : exec .startComplete s =
      .next (s.withAcq (({ s.acq with port := none } : Acquisition).setConv r.conv (some (v.started s.tick)))) := by
  show execStartComplete s = _
  unfold execStartComplete
  rw [transferDone_due hrun hport hk htime]
  dsimp only
  rw [conversionOf_some (by exact hv) hid]

theorem Conversion.started_eq (tick : Nat) (v : Conversion) : v.started tick = { v with
    outstanding := true, nextPoll := some (tick + 10000)
    deadline := if v.outstanding then v.deadline else deadlineFor v.job tick } := rfl

theorem poll_due {k : Converter} {n : Nat} {v : Conversion} (hrun : s.running = true)
    (hv : s.acq.conversions.get k = some v) (hout : v.outstanding = true) (hread : v.readAsked = false)
    (hn : v.nextPoll = some n) (htick : n ≤ s.tick) : exec (.poll k) s =
      .next (s.withAcq ((s.acq.setConv k (some { v with nextPoll := some (n + 10000) })).request
        { conv := k, kind := .poll, probe := 0, id := v.id })) := by
  show execPoll k s = _
  unfold execPoll
  rw [hv]
  dsimp only
  rw [hn]
  exact congrArg Host.Outcome.next (if_pos ⟨hrun, hout, hread, htick⟩)

theorem pollComplete_due {levels : List Bool} {r : Transfer} {began : Nat} {v : Conversion} (hrun : s.running = true)
    (hport : s.acq.port = some (r, began)) (hk : r.kind = .poll) (htime : began + 80 ≤ s.tick)
    (hv : s.acq.conversions.get r.conv = some v) (hid : v.id = r.id) : exec (.pollComplete levels) s = .next
      (if statusReady levels = true ∧ v.outstanding = true ∧ v.readAsked = false then
        s.withAcq ((({ s.acq with port := none } : Acquisition).setConv r.conv (some { v with readAsked := true })).request
          { conv := r.conv, kind := .read, probe := 0, id := v.id })
      else s.withAcq { s.acq with port := none }) := by
  show execPollComplete levels s = _
  unfold execPollComplete
  rw [transferDone_due hrun hport hk htime]
  dsimp only
  rw [conversionOf_some (by exact hv) hid]

/-- A status byte is odd as its last bit is set. -/
theorem byteTaken_odd_iff (levels : List Bool) : byteTaken 0 levels % 2 = 1 ↔ levels.getD 14 true = true := by
  obtain ⟨v, hv⟩ : ∃ v, byteTaken 0 levels = 2 * v + if levels.getD 14 true then 1 else 0 :=
    ⟨_, by rw [byteTaken, List.range_succ (n := 7), List.foldl_append]; rfl⟩
  rw [hv]
  cases levels.getD 14 true
  · simp
  · simp [Nat.add_mod]

/-- Settles O48: what is sent, the port's lines, and the transfers. -/
theorem conversionsRun : Obligations.ConversionsRun := by
  refine ⟨fun r => ⟨fun hk => ?_, fun hk => ?_, fun hk => ?_⟩,
    fun s => ⟨selected_readingImage, fun hrun => ⟨selected_idle hrun, fun r began => selected_transfer hrun⟩, selected_held⟩,
    fun bs => ⟨length_portBits bs, fun b i j => portBits_getElem?⟩, fun s => ⟨sck_idle, fun h => ⟨?_, fun n => ?_⟩,
      fun n hn => List.getElem?_eq_none ((length_portBits _).le.trans hn), fun b i j => portBits_getElem?⟩,
    fun r rs s hrun hport hqueue => ?begin, fun r began v s hrun hport hk htime hv hid => ?start,
    fun k n v s hrun hv hout hread hn htick => poll_due hrun hv hout hread hn htick,
    fun levels r began v s hrun hport hk htime hv hid hout hread =>
      ⟨byteTaken_odd_iff levels, fun hidle => ?idle, fun hready => ?ready⟩⟩
  · unfold Transfer.sends
    rw [hk]
  · unfold Transfer.sends
    rw [hk]
  · unfold Transfer.sends
    rw [hk]
    cases r.conv <;> rfl
  · rw [sck_selected h]
    rfl
  · rw [sck_selected h, sck_selected h, sckAfter_succ]
  case begin =>
    show execTransferBegin s = _
    unfold execTransferBegin
    rw [hport, hqueue]
    exact congrArg Host.Outcome.next (if_pos hrun)
  case start =>
    rw [startComplete_due hrun hport hk htime hv hid, Conversion.started_eq]
    unfold deadlineFor
    cases v.job <;> rfl
  case idle =>
    rw [pollComplete_due hrun hport hk htime hv hid, if_neg fun h => ?_]
    · rfl
    · have hodd := (byteTaken_odd_iff levels).mpr (statusReady_eq levels ▸ h.1)
      omega
  case ready =>
    rw [pollComplete_due hrun hport hk htime hv hid,
      if_pos ⟨(statusReady_eq levels).trans ((byteTaken_odd_iff levels).mp hready), hout, hread⟩]
    rfl

end Sys2Proof.Machine
end

section
/-! The results of field and probe conversions. -/

namespace Sys2Proof.Machine

variable {s t u : State}

/-! ## The accumulation (R109, R124) -/

/-- The Acquisition Unit with a classified sample entered in the second it serves, if that is the one being gathered. -/
def Acquisition.accumulated (c : Comp) (serves : Serves) (k : SampleClass) (a : Acquisition) : Acquisition :=
  match serves, a.gathering with
  | .second n, some g =>
    if g.second = n then { a with gathering := some { g with acc := g.acc.set c ((g.acc.get c).add k) } } else a
  | _, _ => a

theorem accumulate_eq (c : Comp) (serves : Serves) (k : SampleClass) (s : State) :
    accumulate c serves k s = s.withAcq (s.acq.accumulated c serves k) := by
  unfold accumulate Acquisition.accumulated
  cases serves with
  | second n =>
    cases s.acq.gathering with
    | none => rfl
    | some g => exact (apply_ite s.withAcq (g.second = n) _ s.acq).symm
  | uncollected => rfl
  | abandoned => rfl

theorem accumulated_served {c : Comp} {serves : Serves} {a : Acquisition} {g : Gathering} (k : SampleClass)
    (hserves : serves = .second g.second) (hg : a.gathering = some g) : a.accumulated c serves k =
      { a with gathering := some { g with acc := g.acc.set c ((g.acc.get c).add k) } } := by
  unfold Acquisition.accumulated
  rw [hserves, hg]
  exact if_pos rfl

theorem accumulated_other {c : Comp} {serves : Serves} {a : Acquisition} (k : SampleClass)
    (h : ∀ g, a.gathering = some g → serves ≠ .second g.second) : a.accumulated c serves k = a := by
  unfold Acquisition.accumulated
  cases serves with
  | second n =>
    cases hg : a.gathering with
    | none => rfl
    | some g => exact if_neg fun hn => h g hg (by rw [hn])
  | uncollected => rfl
  | abandoned => rfl

theorem accumulated_pendingDir (c : Comp) (serves : Serves) (k : SampleClass) (a : Acquisition)
    (p : Triple (Option Dir)) : Acquisition.accumulated c serves k { a with pendingDir := p } =
      { a.accumulated c serves k with pendingDir := p } := by
  by_cases h : ∃ g, a.gathering = some g ∧ serves = .second g.second
  · obtain ⟨g, hg, hs⟩ := h
    rw [accumulated_served (a := { a with pendingDir := p }) k hs hg, accumulated_served k hs hg]
  · have h : ∀ g, a.gathering = some g → serves ≠ .second g.second := fun g hg hs => h ⟨g, hg, hs⟩
    rw [accumulated_other (a := { a with pendingDir := p }) k h, accumulated_other k h]

theorem saturatedCount_iff (r : Int) : saturatedCount r = true ↔ r = 8388607 ∨ r = -8388608 := by
  unfold saturatedCount
  rw [Bool.or_eq_true, decide_eq_true_eq, decide_eq_true_eq]
  exact or_comm

theorem blankedOrChanged_iff (smp : Sample) :
    (smp.blanked || smp.changed) = true ↔ smp.blanked = true ∨ smp.changed = true := by rw [Bool.or_eq_true]

/-- A sample's class told with its value (R108). -/
theorem Accum.add_classified (cfg : Settings) (c : Comp) (smp : Sample) (r : Int) (a : Accum) :
    a.add (classifyCount cfg c smp r) =
      if smp.blanked = true ∨ smp.changed = true then { a with blanked := a.blanked + 1 }
      else if r = 8388607 ∨ r = -8388608 then { a with saturated := a.saturated + 1 }
      else { a with
        valid := a.valid + 1
        sum := a.sum + (smp.steps * cfg.stepSize + roundHalfAway (r * (cfg.comps.get c).factor) 1000) } := by
  have hblanked := blankedOrChanged_iff smp
  unfold classifyCount
  by_cases hb : smp.blanked = true ∨ smp.changed = true
  · rw [if_pos hb, if_pos (hblanked.mpr hb)]
    rfl
  · rw [if_neg hb, if_neg (mt hblanked.mp hb)]
    by_cases hf : r = 8388607 ∨ r = -8388608
    · rw [if_pos hf, if_pos ((saturatedCount_iff r).mpr hf)]
      rfl
    · rw [if_neg hf, if_neg (mt (saturatedCount_iff r).mp hf)]
      rfl

theorem Accum.add_missing (smp : Sample) (a : Accum) : a.add (classifyMissing smp) =
    if smp.blanked = true ∨ smp.changed = true then { a with blanked := a.blanked + 1 }
    else { a with missing := a.missing + 1 } := by
  have hblanked := blankedOrChanged_iff smp
  unfold classifyMissing
  by_cases hb : smp.blanked = true ∨ smp.changed = true
  · rw [if_pos hb, if_pos (hblanked.mpr hb)]
    rfl
  · rw [if_neg hb, if_neg (mt hblanked.mp hb)]
    rfl

/-! ## The tests of a count (R110, R111) -/

theorem nearCount_iff (r : Int) : nearCount r = true ↔ r < -7340032 ∨ 7340032 < r := by
  unfold nearCount
  rw [decide_eq_true_eq]
  omega

theorem directionOf_near {r : Int} (h : r < -7340032 ∨ 7340032 < r) : directionOf r = if 0 < r then .up else .down := by
  unfold directionOf
  by_cases hr : 0 < r
  · rw [if_pos hr, if_pos hr.le]
  · rw [if_neg hr, if_neg (by omega)]

theorem tested_iff (smp : Sample) : smp.tested = true ↔
    smp.blankAll = false ∧ smp.byCompStep = false ∧ smp.changed = false ∧ smp.serves ≠ .abandoned := by
  unfold Sample.tested
  simp only [Bool.and_eq_true, Bool.not_eq_true', Bool.or_eq_false_iff, decide_eq_true_eq]
  tauto

theorem atLimit_near {r : Int} (h : r < -7340032 ∨ 7340032 < r) (steps : Int) :
    atLimit steps (if 0 < r then .up else .down) = true ↔ (0 < r ∧ 32 ≤ steps) ∨ (r < 0 ∧ steps ≤ -32) := by
  unfold atLimit
  by_cases hr : 0 < r
  · rw [if_pos hr, decide_eq_true_eq]
    omega
  · rw [if_neg hr, decide_eq_true_eq]
    omega

section NearRange

variable {c : Comp} {d : Dir}

theorem nearRange_pending (h : s.acq.pendingDir.get c ≠ none) : nearRange c d s = s := by
  unfold nearRange
  cases hp : s.acq.pendingDir.get c with
  | none => exact absurd hp h
  | some d => rfl

theorem nearRange_limit (h : s.acq.pendingDir.get c = none) (hl : atLimit (s.acq.steps.get c) d = true) :
    nearRange c d s = setFlag .compLimit s := by
  unfold nearRange
  rw [h]
  exact if_pos hl

theorem nearRange_raised (h : s.acq.pendingDir.get c = none) (hl : ¬ atLimit (s.acq.steps.get c) d = true) :
    nearRange c d s = compCause c (s.withAcq { s.acq with pendingDir := s.acq.pendingDir.set c (some d) }) := by
  unfold nearRange
  rw [h]
  exact if_neg hl

end NearRange

/-- The own window record with a component's cause, unless it is NONE (R82). -/
def OwnWindow.joined (c : Comp) (o : OwnWindow) : OwnWindow :=
  if o.state = .opened then { o with nextComps := o.nextComps.set c true }
  else match o.cause with
    | .compStep set => { o with cause := .compStep (set.set c true) }
    | .polarize _ | .void => o

theorem compCause_none {c : Comp} (h : s.win.own.state = .none) : compCause c s =
    handAsk (s.withWin { s.win with own := { s.win.own with
      cause := .compStep ((Triple.all false).set c true), attempts := 0 } }) := by
  unfold compCause
  dsimp only
  rw [h]

theorem compCause_joined {c : Comp} (h : s.win.own.state ≠ .none) :
    compCause c s = s.withWin { s.win with own := s.win.own.joined c } := by
  unfold compCause OwnWindow.joined
  dsimp only
  cases hs : s.win.own.state with
  | none => exact absurd hs h
  | opened => rfl
  | asking | waiting | granted | deferred => cases s.win.own.cause <;> rfl

/-- A component is in the cause of the record, or in its next components. -/
def OwnWindow.carries (c : Comp) (o : OwnWindow) : Prop :=
  (∃ set, o.cause = .compStep set ∧ set.get c = true) ∨ o.nextComps.get c = true

theorem Cause.has_iff {c : Comp} {x : Cause} : x.has c = true ↔ ∃ set, x = .compStep set ∧ set.get c = true := by
  cases x <;> simp [Cause.has]

theorem carries_or {c : Comp} {o : OwnWindow} : (o.cause.has c || o.nextComps.get c) = true ↔ o.carries c := by
  rw [Bool.or_eq_true, Cause.has_iff]
  rfl

/-- A saturated sample makes the ask of this record urgent (R91). -/
def OwnWindow.reached (c : Comp) (o : OwnWindow) : Prop :=
  (o.carries c ∧ o.state ∈ [.asking, .waiting, .granted]) ∨ (o.nextComps.get c = true ∧ o.state = .opened)

theorem saturationReport_reached {c : Comp} (h : s.win.own.reached c) :
    saturationReport c s = s.withWin { s.win with own := { s.win.own with urgent := true } } := by
  unfold saturationReport
  dsimp only
  obtain ⟨hc, hs⟩ | ⟨hn, hs⟩ := h
  · rw [if_pos (carries_or.mpr hc)]
    simp only [List.mem_cons, List.not_mem_nil, or_false] at hs
    obtain hs | hs | hs := hs <;> rw [hs]
  · rw [if_pos (carries_or.mpr (Or.inr hn)), hs]
    exact if_pos hn

theorem saturationReport_deferred {c : Comp} (h : s.win.own.carries c) (hs : s.win.own.state = .deferred) :
    saturationReport c s = handAsk (s.withWin { s.win with own := { s.win.own with urgent := true } }) := by
  unfold saturationReport
  dsimp only
  rw [if_pos (carries_or.mpr h), hs]

theorem saturationReport_idle {c : Comp} (hr : ¬ s.win.own.reached c)
    (hd : ¬ (s.win.own.carries c ∧ s.win.own.state = .deferred)) : saturationReport c s = s := by
  unfold saturationReport
  dsimp only
  by_cases hc : s.win.own.carries c
  · rw [if_pos (carries_or.mpr hc)]
    cases hs : s.win.own.state with
    | none => rfl
    | opened => exact if_neg fun hn => hr (Or.inr ⟨hn, hs⟩)
    | deferred => exact absurd ⟨hc, hs⟩ hd
    | asking | waiting | granted => exact absurd (Or.inl ⟨hc, by rw [hs]; simp⟩) hr
  · exact if_neg (mt carries_or.mp hc)

/-- Whatever the report does, it leaves the Acquisition Unit and the ring alone and resets no flag. -/
theorem saturationReport_kept (c : Comp) (s : State) : (saturationReport c s).acq = s.acq ∧
    (saturationReport c s).ring = s.ring ∧ ∀ f, flagIsSet f s = true → flagIsSet f (saturationReport c s) = true := by
  by_cases hr : s.win.own.reached c
  · rw [saturationReport_reached hr]
    exact ⟨rfl, rfl, fun _ => id⟩
  · by_cases hd : s.win.own.carries c ∧ s.win.own.state = .deferred
    · rw [saturationReport_deferred hd.1 hd.2]
      obtain ⟨queue, hentered, -⟩ := joinQueue_entered
        (.ask { station := s.cfg.station, seq := s.win.own.seq } s.win.own.cause.cls (s.cfg.duration s.win.own.cause.cls)
          (s.cfg.affect s.win.own.cause.cls))
        (s.withWin { s.win with own := { s.win.own with
          urgent := true, state := .asking, attempts := min (s.win.own.attempts + 1) 255
          seq := (s.win.own.seq + 1) % 16, responseEnd := none, start := none, finish := none, waitEnd := none } })
      exact ⟨hentered.acq, hentered.ring, hentered.flags⟩
    · rw [saturationReport_idle hr hd]
      exact ⟨rfl, rfl, fun _ => id⟩

theorem handAsk_room (h : s.line.queue.length < 4) : handAsk s =
    (s.withWin { s.win with own := { s.win.own with
      state := .asking, attempts := min (s.win.own.attempts + 1) 255, seq := (s.win.own.seq + 1) % 16
      responseEnd := none, start := none, finish := none, waitEnd := none } }).withLine { s.line with
        queue := s.line.queue ++ [Queued.fresh (.ask { station := s.cfg.station, seq := s.win.own.seq }
          s.win.own.cause.cls (s.cfg.duration s.win.own.cause.cls) (s.cfg.affect s.win.own.cause.cls))] } := by
  unfold handAsk
  dsimp only
  rw [joinQueue_room _ (by rw [State.withWin_line]; exact h), State.withWin_line]

/-- What a saturated count reports (R91, R111). -/
structure Saturated (c : Comp) (s u : State) : Prop where
  acq : u.acq = s.acq
  ring : u.ring = s.ring
  flags : ∀ f, flagIsSet f s = true → flagIsSet f u = true
  saturated : flagIsSet .saturated u = true
  idle : ¬ s.win.own.reached c → ¬ (s.win.own.carries c ∧ s.win.own.state = .deferred) →
    u.win = s.win ∧ u.line.queue = s.line.queue
  urgent : s.win.own.reached c →
    u.win = { s.win with own := { s.win.own with urgent := true } } ∧ u.line.queue = s.line.queue
  asked : s.win.own.carries c → s.win.own.state = .deferred → s.line.queue.length < 4 →
    u.win = { s.win with own := { s.win.own with
      urgent := true, state := .asking, attempts := min (s.win.own.attempts + 1) 255
      seq := (s.win.own.seq + 1) % 16, responseEnd := none, start := none, finish := none, waitEnd := none } } ∧
    u.line.queue = s.line.queue ++ [Queued.fresh (.ask { station := s.cfg.station, seq := s.win.own.seq }
      s.win.own.cause.cls (s.cfg.duration s.win.own.cause.cls) (s.cfg.affect s.win.own.cause.cls))]

theorem saturated_spec (c : Comp) (s : State) : Saturated c s (saturationReport c (setFlag .saturated s)) := by
  obtain ⟨hacq, hring, hflags⟩ := saturationReport_kept c (setFlag .saturated s)
  have hown : (setFlag .saturated s).win.own = s.win.own := by rw [setFlag_win]
  have hqueue : (setFlag .saturated s).line.queue = s.line.queue := setFlag_line_queue _ s
  refine ⟨hacq.trans (setFlag_acq _ s), hring.trans (setFlag_ring _ s),
    fun f hf => hflags f ((flagIsSet_setFlag _ _ _).mpr (Or.inl hf)),
    hflags _ ((flagIsSet_setFlag _ _ _).mpr (Or.inr rfl)), fun hr hd => ?_, fun hr => ?_, fun hc hs hroom => ?_⟩
  · rw [saturationReport_idle (by rw [hown]; exact hr) (by rw [hown]; exact hd)]
    exact ⟨setFlag_win _ s, hqueue⟩
  · rw [saturationReport_reached (by rw [hown]; exact hr), setFlag_win]
    exact ⟨rfl, hqueue⟩
  · rw [saturationReport_deferred (by rw [hown]; exact hc) (by rw [hown]; exact hs),
      handAsk_room (by exact hqueue ▸ hroom), setFlag_win]
    exact ⟨rfl, congrArg₂ (fun q (e : Env) => q ++ [Queued.fresh (.ask { station := e.cfg.station, seq := s.win.own.seq }
      s.win.own.cause.cls (e.cfg.duration s.win.own.cause.cls) (e.cfg.affect s.win.own.cause.cls))]) hqueue
      (setFlag_env .saturated s)⟩

theorem testCount_far {c : Comp} {r : Int} (h : ¬ (r < -7340032 ∨ 7340032 < r)) : testCount c r s = s := by
  unfold testCount
  dsimp only
  rw [if_neg (mt (nearCount_iff r).mp h), if_neg (mt (saturatedCount_iff r).mp (by omega))]

theorem testCount_near {c : Comp} {r : Int} (h : r < -7340032 ∨ 7340032 < r) : testCount c r s =
    if r = 8388607 ∨ r = -8388608 then
      saturationReport c (setFlag .saturated (nearRange c (if 0 < r then .up else .down) s))
    else nearRange c (if 0 < r then .up else .down) s := by
  unfold testCount
  dsimp only
  rw [if_pos ((nearCount_iff r).mpr h), directionOf_near h]
  exact if_congr (saturatedCount_iff r) rfl rfl

/-- A near count with no own window: one is begun (R82, R110). -/
theorem nearRange_begun {c : Comp} {d : Dir} (h : s.acq.pendingDir.get c = none)
    (hl : ¬ atLimit (s.acq.steps.get c) d = true) (hs : s.win.own.state = .none) (hroom : s.line.queue.length < 4) :
    nearRange c d s =
      ((s.withAcq { s.acq with pendingDir := s.acq.pendingDir.set c (some d) }).withWin { s.win with
        own := { s.win.own with
          cause := .compStep ((Triple.all false).set c true), state := .asking, attempts := 1
          seq := (s.win.own.seq + 1) % 16, responseEnd := none, start := none, finish := none, waitEnd := none } }).withLine
        { s.line with queue := s.line.queue ++ [Queued.fresh (.ask { station := s.cfg.station, seq := s.win.own.seq }
          .compStep s.cfg.settle s.cfg.compAffect)] } := by
  rw [nearRange_raised h hl, compCause_none (by exact hs), handAsk_room (by exact hroom)]
  rfl

/-- A near count with an own window, or one that asks for nothing (R82, R110). -/
structure Neared (c : Comp) (limited : Prop) (own : OwnWindow) (a : Acquisition) (s t : State) : Prop where
  env : t.env = s.env
  win : t.win = { s.win with own := own }
  acq : t.acq = a
  ring : t.ring = s.ring
  queue : t.line.queue = s.line.queue
  limit : limited → flagIsSet .compLimit t = true
  plain : ¬ limited → t = (s.withAcq a).withWin { s.win with own := own }

theorem nearRange_joined {c : Comp} {d : Dir} (h : s.acq.pendingDir.get c = none)
    (hl : ¬ atLimit (s.acq.steps.get c) d = true) (hs : s.win.own.state ≠ .none) : Neared c False (s.win.own.joined c)
      { s.acq with pendingDir := s.acq.pendingDir.set c (some d) } s (nearRange c d s) := by
  rw [nearRange_raised h hl, compCause_joined (by exact hs)]
  exact ⟨rfl, rfl, rfl, rfl, rfl, nofun, fun _ => rfl⟩

theorem nearRange_left {c : Comp} {d : Dir}
    (h : s.acq.pendingDir.get c ≠ none ∨ atLimit (s.acq.steps.get c) d = true) :
    Neared c (s.acq.pendingDir.get c = none) s.win.own s.acq s (nearRange c d s) := by
  by_cases hp : s.acq.pendingDir.get c = none
  · rw [nearRange_limit hp (h.resolve_left (not_not.mpr hp))]
    exact ⟨setFlag_env _ s, setFlag_win _ s, setFlag_acq _ s, setFlag_ring _ s, setFlag_line_queue _ s,
      fun _ => (flagIsSet_setFlag _ _ _).mpr (Or.inr rfl), fun hn => absurd hp hn⟩
  · rw [nearRange_pending hp]
    exact ⟨rfl, rfl, rfl, rfl, rfl, fun hn => absurd hn hp, fun _ => rfl⟩

/-! ## A read that ends (R106) -/

/-- The port free, and the conversion of the transfer ended. -/
def Acquisition.read (k : Converter) (a : Acquisition) : Acquisition :=
  { a with port := none, conversions := a.conversions.set k none }

section Read

variable {r : Transfer} {began : Nat} {levels : List Bool}

theorem resultArrival_due (hrun : s.running = true) (hport : s.acq.port = some (r, began)) (hk : r.kind = .read)
    (htime : began + (match r.conv with | .fc0 | .fc1 | .fc2 => 160 | .tc => 120 | .sc => 200) ≤ s.tick) :
    transferDone .read s = some r :=
  transferDone_due hrun hport hk (by cases hc : r.conv <;> rw [hc] at htime <;> exact htime)

theorem resultArrival_ended (hdone : transferDone .read s = some r)
    (h : ∀ v, s.acq.conversions.get r.conv = some v → v.id ≠ r.id) :
    exec (.resultArrival levels) s = .next (s.withAcq { s.acq with port := none }) := by
  show execResultArrival levels s = _
  unfold execResultArrival
  rw [hdone]
  dsimp only
  rw [conversionOf_none (by exact h)]

theorem resultArrival_taken {v : Conversion} (hdone : transferDone .read s = some r)
    (hv : s.acq.conversions.get r.conv = some v) (hid : v.id = r.id) :
    exec (.resultArrival levels) s = .next (arrivedResult v.job levels (s.withAcq (s.acq.read r.conv))) := by
  show execResultArrival levels s = _
  unfold execResultArrival
  rw [hdone]
  dsimp only
  rw [conversionOf_some (by exact hv) hid]
  rfl

end Read

/-- A field count that arrives: the effects of its test, then its class in the second it serves. -/
theorem takeCount_eq (c : Comp) (smp : Sample) (r : Int) (s : State) : takeCount c smp r s =
    (if smp.tested then testCount c r s else s).withAcq
      ((if smp.tested then testCount c r s else s).acq.accumulated c smp.serves (classifyCount s.cfg c smp r)) :=
  accumulate_eq _ _ _ _

/-! ## A probe's reading (R116) -/

theorem beNat_taken (levels : List Bool) :
    beNat (takenBytes 2 levels) = 256 * byteTaken 0 levels + byteTaken 1 levels := by
  have h : takenBytes 2 levels = [BitVec.ofNat 8 (byteTaken 0 levels), BitVec.ofNat 8 (byteTaken 1 levels)] :=
    takenBytes_eq 2 levels
  have h0 := byteTaken_lt 0 levels
  have h1 := byteTaken_lt 1 levels
  rw [h]
  simp only [beNat, List.reverse_cons, List.reverse_nil, List.nil_append, List.cons_append, leNat, BitVec.toNat_ofNat,
    Nat.reducePow, Nat.mod_eq_of_lt h0, Nat.mod_eq_of_lt h1]
  omega

theorem probeReading_good {n : Nat} (j : Nat) (h : 1 ≤ n) (h' : n ≤ 65534) : probeReading j (some n) s =
    s.withAcq { s.acq with
      probes := s.acq.probes.set j { status := .good, count := some n, lastGood := some s.reading } } :=
  if_pos (by rw [Option.any_some, decide_eq_true h, decide_eq_true h']; rfl)

theorem probeReading_bad {n j : Nat} {p : Probe} (h : n = 0 ∨ n = 65535) (hp : s.acq.probes[j]? = some p) :
    probeReading j (some n) s = setFlagIf (decide (p.status ≠ .failed)) .probeFail
      (s.withAcq { s.acq with probes := s.acq.probes.set j { p with status := .failed } }) := by
  have hbad : ¬ ((some n).any fun n => decide (1 ≤ n) && decide (n ≤ 65534)) = true := by
    rw [Option.any_some, Bool.and_eq_true, decide_eq_true_eq, decide_eq_true_eq]
    omega
  refine (if_neg hbad).trans ?_
  rw [probe_eq hp]

/-! ## A conversion's deadline (R106) -/

theorem conversionDeadline_due {k : Converter} {v : Conversion} (hrun : s.running = true)
    (hv : s.acq.conversions.get k = some v) (hout : v.outstanding = true) (htick : v.deadline ≤ s.tick) :
    exec (.conversionDeadline k) s = .next (missingResult v.job (s.withAcq (s.acq.setConv k none))) := by
  show execConversionDeadline k s = _
  unfold execConversionDeadline
  rw [hv]
  dsimp only
  rw [if_pos ⟨hrun, hout, htick⟩, endConversion_some hv]

theorem missingResult_field (c : Comp) (smp : Sample) (s : State) : missingResult (.field c smp) s =
    s.withAcq (s.acq.accumulated c smp.serves (classifyMissing smp)) := accumulate_eq _ _ _ _

end Sys2Proof.Machine
end

section
/-! What a result leaves: the field sample, the probe's reading, and the deadlines. -/

namespace Sys2Proof.Machine

variable {s t u : State}

theorem OwnWindow.joined_kept (c : Comp) (o : OwnWindow) : (o.joined c).state = o.state ∧ (o.joined c).seq = o.seq := by
  unfold OwnWindow.joined
  split
  · exact ⟨rfl, rfl⟩
  · cases o.cause <;> exact ⟨rfl, rfl⟩

/-- A tested near count: the near range first, then the saturation, then the sample's class. -/
theorem takeCount_near {c : Comp} {smp : Sample} {r : Int} (htested : smp.tested = true)
    (hnear : r < -7340032 ∨ 7340032 < r) : ∃ u,
      takeCount c smp r s = u.withAcq (u.acq.accumulated c smp.serves (classifyCount s.cfg c smp r)) ∧
      (¬ (r = 8388607 ∨ r = -8388608) → u = nearRange c (if 0 < r then .up else .down) s) ∧
      (r = 8388607 ∨ r = -8388608 → Saturated c (nearRange c (if 0 < r then .up else .down) s) u) := by
  rw [takeCount_eq, if_pos htested, testCount_near hnear]
  refine ⟨_, rfl, fun hn => if_neg hn, fun hf => ?_⟩
  rw [if_pos hf]
  exact saturated_spec c _

theorem takeCount_plain {c : Comp} {smp : Sample} {r : Int}
    (h : ¬ smp.tested = true ∨ ¬ (r < -7340032 ∨ 7340032 < r)) : takeCount c smp r s =
      s.withAcq (s.acq.accumulated c smp.serves (classifyCount s.cfg c smp r)) := by
  have hkept : (if smp.tested then testCount c r s else s) = s := by
    obtain h | h := h
    · exact if_neg h
    · rw [testCount_far h]
      exact ite_self s
  rw [takeCount_eq, hkept]

/-- Settles O49: a read that ends, with its field sample or its probe's reading, and a deadline. -/
theorem resultsAreTaken : Obligations.ResultsAreTaken := by
  refine ⟨fun r began s hrun hport hk htime => ?arrival, fun k v s hrun hv hout htick => ?deadline⟩
  case arrival =>
    have hdone := resultArrival_due hrun hport hk htime
    refine ⟨fun hended levels => resultArrival_ended hdone hended, fun v hv hid =>
      ⟨fun c smp levels hconv hjob => ?field, fun j p levels hconv hjob hp => ?probe⟩⟩
    case field =>
      intro n value full near d limit tested done class'
      have hexec : exec (.resultArrival levels) s = .next (takeCount c smp n (s.withAcq done)) := by
        rw [resultArrival_taken hdone hv hid, hjob]
        exact congrArg (fun x => Host.Outcome.next (takeCount c smp x (s.withAcq done))) (fieldCount_eq levels)
      obtain ⟨k, hk⟩ : ∃ k, k = classifyCount s.cfg c smp n := ⟨_, rfl⟩
      refine ⟨done.accumulated c smp.serves k, fun g hs hg => ?_, fun h => accumulated_other k h, fun h => ?_,
        fun htested hnear => ?_⟩
      · rw [accumulated_served (a := done) k hs hg, hk, Accum.add_classified]
      · rw [hexec, takeCount_plain (h.imp_left (mt (tested_iff smp).mp)), hk]
        rfl
      · intro raised asks ask
        obtain ⟨u, hu, hplain, hsat⟩ := takeCount_near (s := s.withAcq done) (c := c) ((tested_iff smp).mpr htested) hnear
        have hlimit : atLimit (s.acq.steps.get c) d = true ↔ limit := atLimit_near hnear _
        rw [show classifyCount (s.withAcq done).cfg c smp n = k from hk.symm] at hu
        rw [hu] at hexec
        refine ⟨fun hr hs hroom => ?begun, fun hjoin => ?joined⟩
        case begun =>
          have hN := nearRange_begun (s := s.withAcq done) (c := c) (d := d) hr.1 (mt hlimit.mp hr.2) hs hroom
          rw [show (if 0 < n then Dir.up else Dir.down) = d from rfl, hN] at hplain hsat
          refine ⟨_, hexec, ?_⟩
          by_cases hf : full
          · have hsat := hsat hf
            obtain ⟨hwin, hqueue⟩ := hsat.urgent
              (Or.inl ⟨Or.inl ⟨_, rfl, Triple.get_set_same _ c true⟩, List.mem_cons_self⟩)
            rw [State.withAcq_acq, State.withAcq_win, State.withAcq_line, State.withAcq_ring, hwin, hqueue, hsat.ring, hsat.acq]
            exact ⟨accumulated_pendingDir .., rfl, rfl, rfl, rfl, rfl, fun h => absurd hf h,
              fun _ => ⟨hsat.saturated, rfl⟩⟩
          · rw [hplain hf]
            exact ⟨accumulated_pendingDir .., rfl, rfl, rfl, rfl, rfl, fun _ => ⟨rfl, rfl⟩, fun h => absurd h hf⟩
        case joined =>
          intro own acq inCause inNext reached
          obtain ⟨lim, before, hN, hacq, hlim⟩ : ∃ lim before,
              Neared c lim own before (s.withAcq done) (nearRange c d (s.withAcq done)) ∧
              before.accumulated c smp.serves k = acq ∧ (lim ↔ s.acq.pendingDir.get c = none ∧ limit) := by
            by_cases hr : raised
            · have hnear' := nearRange_joined (s := s.withAcq done) (c := c) (d := d) hr.1 (mt hlimit.mp hr.2)
                fun hs => hjoin ⟨hr, hs⟩
              rw [show own = s.win.own.joined c from (if_pos hr).trans rfl, show acq = asks from if_pos hr]
              exact ⟨False, _, hnear', accumulated_pendingDir .., iff_of_false id fun h => hr.2 h.2⟩
            · have hleft : s.acq.pendingDir.get c ≠ none ∨ limit := by
                by_contra h
                exact hr (by simpa only [not_or, not_not] using h)
              rw [show own = s.win.own from if_neg hr, show acq = done.accumulated c smp.serves k from if_neg hr]
              exact ⟨_, done, nearRange_left (s := s.withAcq done) (c := c) (d := d) (hleft.imp_right hlimit.mpr), rfl,
                ⟨fun h => ⟨h, hleft.resolve_left (not_not.mpr h)⟩, And.left⟩⟩
          obtain ⟨hstate, hseq⟩ : own.state = s.win.own.state ∧ own.seq = s.win.own.seq := by
            by_cases hr : raised
            · rw [show own = s.win.own.joined c from (if_pos hr).trans rfl]
              exact OwnWindow.joined_kept c _
            · rw [show own = s.win.own from if_neg hr]
              exact ⟨rfl, rfl⟩
          rw [show (if 0 < n then Dir.up else Dir.down) = d from rfl] at hplain hsat
          obtain ⟨N, hNeq⟩ : ∃ N, N = nearRange c d (s.withAcq done) := ⟨_, rfl⟩
          rw [← hNeq] at hN hplain hsat
          have hown : N.win.own = own := by rw [hN.win]
          have hreached : N.win.own.reached c ↔ reached := by
            rw [hown, show reached ↔ own.reached c from by unfold OwnWindow.reached; rw [hstate]; rfl]
          have hcarries : N.win.own.carries c ∧ N.win.own.state = .deferred ↔
              (inCause ∨ inNext) ∧ s.win.own.state = .deferred := by
            rw [hown, hstate]
            rfl
          have hkept : u.acq = before ∧ u.ring = s.ring ∧ ∀ f, flagIsSet f N = true → flagIsSet f u = true := by
            by_cases hf : full
            · exact ⟨(hsat hf).acq.trans hN.acq, (hsat hf).ring.trans hN.ring, (hsat hf).flags⟩
            · rw [hplain hf]
              exact ⟨hN.acq, hN.ring, fun _ => id⟩
          refine ⟨fun hf hplain' => ?_, _, hexec, ?_, ?_, fun hp hl => ?_, fun hf => (hsat hf).saturated, fun h => ?_,
            fun hf hr => ?_, fun hf hc hd hroom => ?_⟩
          · rw [hexec, hplain hf, hN.acq, hacq, hN.plain fun hl => hplain'.elim (· (hlim.mp hl).1) (· (hlim.mp hl).2)]
            rfl
          · exact (congrArg (Acquisition.accumulated c smp.serves k) hkept.1).trans hacq
          · exact hkept.2.1
          · exact hkept.2.2 _ (hN.limit (hlim.mpr ⟨hp, hl⟩))
          · by_cases hf : full
            · obtain ⟨hr, hd⟩ := h.resolve_left (not_not.mpr hf)
              obtain ⟨hwin, hqueue⟩ := (hsat hf).idle (mt hreached.mp hr) (mt hcarries.mp hd)
              exact ⟨hwin.trans hN.win, hqueue.trans hN.queue⟩
            · rw [hplain hf]
              exact ⟨hN.win, hN.queue⟩
          · obtain ⟨hwin, hqueue⟩ := (hsat hf).urgent (hreached.mpr hr)
            exact ⟨hwin.trans (by rw [hN.win]; rfl), hqueue.trans hN.queue⟩
          · obtain ⟨hc', hd'⟩ := hcarries.mpr ⟨Or.inl hc, hd⟩
            obtain ⟨hwin, hqueue⟩ := (hsat hf).asked hc' hd' (by rw [hN.queue]; exact hroom)
            refine ⟨hwin.trans (by rw [hN.win]; rfl), hqueue.trans ?_⟩
            obtain ⟨set, hset, -⟩ := hc
            rw [hN.queue, cfg_of_env hN.env, hown, hset, hseq]
            rfl
    case probe =>
      intro n taken
      have hexec : exec (.resultArrival levels) s = .next (probeReading j (some n) (s.withAcq (s.acq.read .tc))) := by
        rw [resultArrival_taken hdone hv hid, hjob, hconv]
        exact congrArg (fun x => Host.Outcome.next (probeReading j (some x) (s.withAcq (s.acq.read .tc)))) (beNat_taken levels)
      refine ⟨fun h h' => ?_, fun h => ?_⟩
      · rw [hexec, probeReading_good j h h']
        rfl
      · rw [hexec, probeReading_bad (s := s.withAcq (s.acq.read .tc)) h hp]
        by_cases hf : p.status = .failed
        · rw [if_pos hf, decide_eq_false (not_not.mpr hf), ← hf]
          rfl
        · rw [if_neg hf, decide_eq_true hf]
          rfl
  case deadline =>
    rw [conversionDeadline_due hrun hv hout htick]
    refine ⟨fun c smp hjob => ?_, fun j p hjob hp hstatus => ?_⟩
    · rw [hjob, missingResult_field, State.withAcq_acq]
      refine ⟨fun g hs hg => ?_, fun h => ?_⟩
      · rw [accumulated_served (a := s.acq.setConv k none) _ hs hg, Accum.add_missing]
        rfl
      · rw [accumulated_other (a := s.acq.setConv k none) _ h]
        rfl
    · rw [hjob, missingResult_probe (s := s.withAcq (s.acq.setConv k none)) hp hstatus]
      rfl

end Sys2Proof.Machine
end

section
/-! The scalar cycle: its ask, its count end, and its reading. -/

namespace Sys2Proof.Machine

variable {s t u : State}

/-! ## The ask instant (R118) -/

/-- The Acquisition Unit after an ask instant, whose next is known. -/
def Acquisition.askedAt (next : NodeTime) (a : Acquisition) : Acquisition :=
  { a with lastAsk := some a.nextAsk, nextAsk := next }

theorem askInstant_due (hrun : s.running = true) (hrole : s.cfg.role = .scalar) (hask : s.reached s.acq.nextAsk = true) :
    exec .askInstant s = .next (polarizeCause (plus s.acq.nextAsk 500000000)
      (s.withAcq (s.acq.askedAt (plus s.acq.nextAsk (s.cfg.cycle * 1000000000 : Nat))))) := by
  have hdue : askDue s = true := by
    unfold askDue
    rw [hrun, hrole, hask]
    rfl
  exact congrArg Host.Outcome.next (if_pos hdue)

theorem polarizeCause_none {cycle : NodeTime} (h : s.win.own.state = .none) : polarizeCause cycle s =
    handAsk ((s.withWin { s.win with own := { s.win.own with cause := .polarize cycle, attempts := 0 } }).withAcq
      { s.acq with asked := some cycle }) := if_pos h

theorem polarizeCause_busy {cycle : NodeTime} (h : s.win.own.state ≠ .none) :
    polarizeCause cycle s = skipCycle cycle s := if_neg h

/-- The tag of a cycle that is skipped (R122). -/
def skippedTag (cycle : NodeTime) (s : State) : NodeTime :=
  plus cycle (s.cfg.polarize * 1000000 + s.cfg.count * 500000 : Nat)

theorem skipCycle_discarded {cycle : NodeTime} (h : ¬ Hands (skippedTag cycle s) s) :
    skipCycle cycle s = setFlag .cycleSkipped s :=
  congrArg (setFlag .cycleSkipped) (handReading_discarded .skipped false h)

theorem skipCycle_handed {cycle : NodeTime} (h : Hands (skippedTag cycle s) s)
    (hroom : s.ring.records.length < 16384) :
    (skipCycle cycle s).acq = { s.acq with
      stepped := false, lastTag := some (skippedTag cycle s - skippedTag cycle s % 1000000) } ∧
    (skipCycle cycle s).win = s.win ∧ flagIsSet .cycleSkipped (skipCycle cycle s) = true ∧
    HandedOver (skippedTag cycle s) false false true false none s (skipCycle cycle s) := by
  obtain ⟨hover, hbanked, -, -⟩ := handReading_spec .skipped false (plus_lt_circle _ _) h hroom
  have hskip : skipCycle cycle s = setFlag .cycleSkipped (handReading (skippedTag cycle s) .skipped false s) := rfl
  rw [hskip]
  refine ⟨(setFlag_acq _ _).trans (hbanked.acq.trans ?_), (setFlag_win _ _).trans hbanked.win,
    (flagIsSet_setFlag _ _ _).mpr (Or.inr rfl), ?_⟩
  · rw [tagTime_eq]
    rfl
  · exact hover.congr rfl rfl rfl rfl (congrArg RecordRing.records (setFlag_ring _ _))
      (congrArg Acquisition.stepped (setFlag_acq _ _)) (congrArg Acquisition.lastTag (setFlag_acq _ _))

section Ask

variable {cycle next : NodeTime}

theorem polarizeCause_asks (hs : s.win.own.state = .none) (hroom : s.line.queue.length < 4) :
    polarizeCause cycle (s.withAcq (s.acq.askedAt next)) = { s with
      acq := { s.acq with lastAsk := some s.acq.nextAsk, nextAsk := next, asked := some cycle }
      win := { s.win with
        own := { s.win.own with
          state := .asking, cause := .polarize cycle, attempts := 1, seq := (s.win.own.seq + 1) % 16
          responseEnd := none, start := none, finish := none, waitEnd := none } }
      line := { s.line with
        queue := s.line.queue ++
          [{ frame := .ask { station := s.cfg.station, seq := s.win.own.seq } .polarize s.cfg.polarize
               s.cfg.polarizeAffect
             failures := 0, inAttempt := false }] } } := by
  rw [polarizeCause_none (by exact hs), handAsk_room (by exact hroom)]
  rfl

theorem polarizeCause_discarded (hs : s.win.own.state ≠ .none) (hh : ¬ Hands (skippedTag cycle s) s) :
    polarizeCause cycle (s.withAcq (s.acq.askedAt next)) = setFlag .cycleSkipped (s.withAcq (s.acq.askedAt next)) := by
  rw [polarizeCause_busy (by exact hs), skipCycle_discarded (by exact hh)]

theorem polarizeCause_skips (hs : s.win.own.state ≠ .none) (hh : Hands (skippedTag cycle s) s)
    (hroom : s.ring.records.length < 16384) :
    (polarizeCause cycle (s.withAcq (s.acq.askedAt next))).acq = { s.acq.askedAt next with
      stepped := false, lastTag := some (skippedTag cycle s - skippedTag cycle s % 1000000) } ∧
    (polarizeCause cycle (s.withAcq (s.acq.askedAt next))).win = s.win ∧
    flagIsSet .cycleSkipped (polarizeCause cycle (s.withAcq (s.acq.askedAt next))) = true ∧
    HandedOver (skippedTag cycle s) false false true false none s
      (polarizeCause cycle (s.withAcq (s.acq.askedAt next))) := by
  rw [polarizeCause_busy (by exact hs)]
  obtain ⟨hacq, hwin, hflag, hover⟩ := skipCycle_handed (s := s.withAcq (s.acq.askedAt next)) (cycle := cycle) hh hroom
  exact ⟨hacq, hwin, hflag, hover.congr rfl rfl rfl rfl rfl rfl rfl⟩

end Ask

/-! ## The reading (R121, R136) -/

/-- The reading made with a value, and the cycle over. -/
theorem completeReading_eq {rd : Reading} (value : ScalarValue) (h : s.acq.reading = some rd) :
    completeReading value s =
      (handReading (plus rd.openTime (s.cfg.count * 500000 : Nat)) value rd.mark s).withAcq
        { (handReading (plus rd.openTime (s.cfg.count * 500000 : Nat)) value rd.mark s).acq with reading := none } := by
  unfold completeReading
  rw [h]
  rfl

theorem completeReading_discarded {rd : Reading} (value : ScalarValue) (h : s.acq.reading = some rd)
    (hh : ¬ Hands (plus rd.openTime (s.cfg.count * 500000 : Nat)) s) :
    completeReading value s = s.withAcq { s.acq with reading := none } := by
  rw [completeReading_eq value h, handReading_discarded value rd.mark hh]

theorem completeReading_handed {rd : Reading} {tag : NodeTime} (value : ScalarValue) (h : s.acq.reading = some rd)
    (htag : plus rd.openTime (s.cfg.count * 500000 : Nat) = tag) (hh : Hands tag s)
    (hroom : s.ring.records.length < 16384) :
    (completeReading value s).acq = { s.acq with
      reading := none, stepped := false, lastTag := some (tag - tag % 1000000) } ∧
    HandedOver tag rd.mark (decide (value = .missing) || decide (value = .frequency 0)) (decide (value = .skipped))
      value.clamped ((scalarPresent value s).map (·.value)) s (completeReading value s) ∧
    (value.clamped = true → flagIsSet .saturated (completeReading value s) = true) ∧
    ((scalarPresent value s).any (·.edge) = true → flagIsSet .tableEdge (completeReading value s) = true) := by
  obtain ⟨hover, hbanked, hsaturated, hedge⟩ :=
    handReading_spec value rd.mark (htag ▸ plus_lt_circle _ _) hh hroom
  rw [completeReading_eq value h, htag]
  refine ⟨?_, hover.congr rfl rfl rfl rfl rfl rfl rfl, hsaturated, hedge⟩
  rw [State.withAcq_acq, hbanked.acq, tagTime_eq]
  rfl

theorem beNat_taken_four (levels : List Bool) : beNat (takenBytes 4 levels) =
    16777216 * byteTaken 0 levels + 65536 * byteTaken 1 levels + 256 * byteTaken 2 levels + byteTaken 3 levels := by
  have h : takenBytes 4 levels = [BitVec.ofNat 8 (byteTaken 0 levels), BitVec.ofNat 8 (byteTaken 1 levels),
    BitVec.ofNat 8 (byteTaken 2 levels), BitVec.ofNat 8 (byteTaken 3 levels)] := takenBytes_eq 4 levels
  have h0 := byteTaken_lt 0 levels
  have h1 := byteTaken_lt 1 levels
  have h2 := byteTaken_lt 2 levels
  have h3 := byteTaken_lt 3 levels
  rw [h]
  simp only [beNat, List.reverse_cons, List.reverse_nil, List.nil_append, List.cons_append, leNat, BitVec.toNat_ofNat,
    Nat.reducePow, Nat.mod_eq_of_lt h0, Nat.mod_eq_of_lt h1, Nat.mod_eq_of_lt h2, Nat.mod_eq_of_lt h3]
  omega

theorem scalarPresent_zero (s : State) : scalarPresent (.frequency 0) s = none := rfl

/-- A frequency other than 0 makes a corrected value (R136). -/
theorem scalarPresent_some {f : Nat} (h : f ≠ 0) (s : State) : ∃ field x edge temp,
    scalarPresent (.frequency f) s = some { value := x, edge := edge, temp := temp } ∧
    HalfAway ((min f 17000000 * 234872 : Nat) : Int) 10000 field ∧
    CorrectedValue s.cfg s.cfg.comps.x ((s.acq.probe s.cfg.comps.x.probe).stateAt s.reading) field x edge :=
  ⟨scalarField (min f 17000000), _, _, _, if_neg h, roundHalfAway_spec _ (by decide), correctValue_spec _ _ _ _⟩

/-! ## The count end (R120) -/

theorem countEnd_eq (hrun : s.running = true) : exec .countEnd s = .next (dropPhases (endCount s)) :=
  congrArg Host.Outcome.next (if_pos hrun)

theorem endCount_due {w o e : NodeTime} (h : s.acq.measuring = some { windowEnd := w, stage := .counting o e })
    (he : s.reached e = true) : endCount s = countEnd o e s := by
  unfold endCount
  rw [h]
  exact if_pos he

theorem countEnd_free {o e : NodeTime} (h : s.acq.conversions.sc = none) : countEnd o e s =
    s.withAcq { s.acq.begin .sc .counter true (s.tick + 2000000) with
      countOut := false, measuring := none, reading := some { openTime := o, mark := phaseMark s e } } := by
  unfold countEnd
  rw [endConversion_none (k := .sc) h]

theorem endCount_early
    (h : ∀ w o e, s.acq.measuring = some { windowEnd := w, stage := .counting o e } → s.reached e = false) :
    endCount s = s := by
  unfold endCount
  cases hm : s.acq.measuring with
  | none => rfl
  | some m =>
    obtain ⟨w, stage⟩ := m
    cases stage with
    | polarizing => rfl
    | counting o e => exact if_neg (by rw [h w o e hm]; exact Bool.false_ne_true)

/-- Settles O51: the ask instant, the reading and its deadline, and the count end. -/
theorem scalarCycleRuns : Obligations.ScalarCycleRuns := by
  refine ⟨fun s hrun hrole hask => ?ask, fun v rd s hrun hv hjob hrd => ?reading, fun s hrun => ?count⟩
  case ask =>
    rw [askInstant_due hrun hrole hask]
    exact ⟨fun hs hroom => congrArg Host.Outcome.next (polarizeCause_asks hs hroom),
      fun hs hh => congrArg Host.Outcome.next (polarizeCause_discarded hs hh),
      fun hs hh hroom => ⟨_, rfl, polarizeCause_skips hs hh hroom⟩⟩
  case reading =>
    intro tag past told
    refine ⟨fun r began levels hport hk hconv htime hid => ?_, fun hout htick => ?_⟩
    · intro f
      have hexec : exec (.resultArrival levels) s = .next (completeReading (.frequency f) (s.withAcq (s.acq.read .sc))) := by
        rw [resultArrival_taken (transferDone_due hrun hport hk (by rw [hconv]; exact htime)) (by rw [hconv]; exact hv) hid,
          hjob, hconv]
        exact congrArg (fun x => Host.Outcome.next (completeReading (.frequency x) (s.withAcq (s.acq.read .sc))))
          (beNat_taken_four levels)
      rw [hexec]
      refine ⟨fun hh => ?_, fun hh hroom => ?_⟩
      · rw [completeReading_discarded _ (by exact hrd) (by exact hh)]
        rfl
      · obtain ⟨hacq, hover, hsaturated, hedge⟩ :=
          completeReading_handed (s := s.withAcq (s.acq.read .sc)) (tag := tag) (.frequency f) hrd rfl hh hroom
        obtain ⟨u, hu⟩ : ∃ u, u = completeReading (.frequency f) (s.withAcq (s.acq.read .sc)) := ⟨_, rfl⟩
        rw [← hu] at hacq hover hsaturated hedge ⊢
        have hzero : (decide (ScalarValue.frequency f = .missing) || decide (ScalarValue.frequency f = .frequency 0)) =
            decide (f = 0) := by
          simp
        rw [hzero] at hover
        refine ⟨u, _, rfl, hacq, hover.congr rfl rfl rfl rfl rfl rfl rfl, fun hf => hsaturated (decide_eq_true hf),
          fun hf => ?_, fun hf => ?_⟩
        · rw [hf, scalarPresent_zero]
          rfl
        · obtain ⟨field, x, edge, temp, hpresent, hfield, hx⟩ := scalarPresent_some hf (s.withAcq (s.acq.read .sc))
          rw [hpresent] at hedge ⊢
          exact ⟨field, x, edge, hfield, hx, rfl, hedge⟩
    · rw [conversionDeadline_due hrun (by exact hv) hout htick, hjob]
      have hmissing : ∀ s, missingResult .counter s = completeReading .missing s := fun s => rfl
      rw [hmissing]
      refine ⟨fun hh => ?_, fun hh hroom => ?_⟩
      · rw [completeReading_discarded _ (by exact hrd) (by exact hh)]
        rfl
      · obtain ⟨hacq, hover, -, -⟩ :=
          completeReading_handed (s := s.withAcq (s.acq.setConv .sc none)) (tag := tag) .missing hrd rfl hh hroom
        exact ⟨_, rfl, hacq, hover.congr rfl rfl rfl rfl rfl rfl rfl⟩
  case count =>
    intro dropped
    rw [countEnd_eq hrun]
    refine ⟨fun w o e hm he hsc => ?_, fun h => ?_⟩
    · rw [endCount_due hm he, countEnd_free hsc]
      rfl
    · rw [endCount_early h]
      rfl

end Sys2Proof.Machine
end

section
/-! The closed second: its record, the recent-F buffer, and the bank it joins. -/

namespace Sys2Proof.Machine

variable {s t u : State}

/-! ## A probe's state (R117) -/

theorem stateAt_noTemp {p : Probe} (x : NodeTime) (h : p.status = .void ∨ (p.status = .failed ∧ p.count = none)) :
    p.stateAt x = .noTemp := by
  unfold Probe.stateAt
  obtain h | ⟨h, hc⟩ := h
  · rw [h]
  · rw [h, hc]

theorem stateAt_good {p : Probe} {n : Nat} (x : NodeTime) (hn : p.count = some n) (h : p.status = .good) :
    p.stateAt x = .good n := by
  unfold Probe.stateAt
  rw [h, hn]

theorem stateAt_failed {p : Probe} {n : Nat} {last : NodeTime} (x : NodeTime) (hn : p.count = some n)
    (h : p.status = .failed) (hlast : p.lastGood = some last) :
    p.stateAt x = if 600000000000 < diff x last then .stale n else .held n := by
  unfold Probe.stateAt
  rw [h, hn, hlast]

/-! ## The bank that a record joins (R155, R156) -/

/-- A bank is the one that an own record joins: FILLING, or with none FILLING, FREE and empty with no lower-numbered FREE
one. -/
def Joins (g : RecordRing) (i : Bool) : Prop :=
  ((g.bank i).state = .filling ∧ (g.bank (!i)).state ≠ .filling) ∨
    ((g.bank i).state = .free ∧ (g.bank i).records = [] ∧ (g.bank (!i)).state ≠ .filling ∧
      (i = true → (g.bank (!i)).state ≠ .free))

theorem fillingBank_of_joins {g : RecordRing} {i : Bool} (h : Joins g i) : g.fillingBank = some i := by
  unfold RecordRing.fillingBank Bank.filling
  cases i with
  | false =>
    obtain ⟨h0, -⟩ | ⟨h0, -, h1, -⟩ := h
    · exact if_pos (decide_eq_true h0)
    · have h0' : g.bank0.state = .free := h0
      have h1' : g.bank1.state ≠ .filling := h1
      rw [if_neg (by rw [h0']; decide), if_neg (by simpa using h1'), if_pos h0']
  | true =>
    obtain ⟨h1, h0⟩ | ⟨h1, -, h0, hfree⟩ := h
    · have h0' : g.bank0.state ≠ .filling := h0
      rw [if_neg (by simpa using h0')]
      exact if_pos (decide_eq_true h1)
    · have h1' : g.bank1.state = .free := h1
      have h0' : g.bank0.state ≠ .filling := h0
      rw [if_neg (by simpa using h0'), if_neg (by rw [h1']; decide), if_pos h1']
      exact if_neg (hfree rfl)

/-- The ring with a bank's records replaced, FILLING. -/
def RecordRing.filled (g : RecordRing) (i : Bool) (rs : List Record) : RecordRing :=
  g.setBank i { state := .filling, records := rs }

section Fill

variable {i : Bool} (r : Record)

theorem fillBank_below (h : s.ring.fillingBank = some i) (hlen : (s.ring.bank i).records.length + 1 < s.cfg.bankLength) :
    fillBank r s = s.withRing (s.ring.filled i ((s.ring.bank i).records ++ [r])) := by
  unfold fillBank
  rw [h]
  dsimp only
  rw [if_pos (by omega), if_pos hlen]
  rfl

theorem fillBank_closes (h : s.ring.fillingBank = some i) (hlen : (s.ring.bank i).records.length + 1 = s.cfg.bankLength) :
    fillBank r s = closeBank i (s.withRing (s.ring.filled i ((s.ring.bank i).records ++ [r]))) := by
  unfold fillBank
  rw [h]
  dsimp only
  rw [if_pos (by omega), if_neg (by omega)]
  rfl

theorem fillBank_full (h : s.ring.fillingBank = some i) (hlen : s.cfg.bankLength < (s.ring.bank i).records.length + 1) :
    fillBank r s = setFlag .bankDrop (s.withRing (s.ring.filled i ((s.ring.bank i).records.tail ++ [r]))) := by
  unfold fillBank
  rw [h]
  dsimp only
  rw [if_neg (by omega)]
  rfl

/-- The banks of a ring after an own record has joined one of them. -/
def BankFilled (r : Record) (bankLength : Nat) (i : Bool) (g : RecordRing) (t : State) : Prop :=
  let joined := (g.bank i).records ++ [r]
  (joined.length < bankLength → t.ring.bank i = { state := .filling, records := joined } ∧
    t.ring.bank (!i) = g.bank (!i)) ∧
  (joined.length = bankLength →
    ((g.bank (!i)).state = .free ∨ (g.bank (!i)).state = .pending →
      t.ring.bank i = { state := .pending, records := joined } ∧
      t.ring.bank (!i) = { state := .filling, records := [] }) ∧
    ((g.bank (!i)).state = .pending → flagIsSet .bankDrop t = true) ∧
    ((g.bank (!i)).state = .sending →
      t.ring.bank i = { state := .filling, records := joined } ∧ t.ring.bank (!i) = g.bank (!i))) ∧
  (bankLength < joined.length →
    t.ring.bank i = { state := .filling, records := (g.bank i).records.tail ++ [r] } ∧
    t.ring.bank (!i) = g.bank (!i) ∧ flagIsSet .bankDrop t = true)

theorem BankFilled.mono {bankLength : Nat} {g : RecordRing} (h : BankFilled r bankLength i g t)
    (h0 : u.ring.bank i = t.ring.bank i) (h1 : u.ring.bank (!i) = t.ring.bank (!i))
    (hf : ∀ f, flagIsSet f t = true → flagIsSet f u = true) : BankFilled r bankLength i g u := by
  obtain ⟨hbelow, hcloses, hfull⟩ := h
  unfold BankFilled
  rw [h0, h1]
  exact ⟨hbelow, fun hlen => ⟨(hcloses hlen).1, fun hp => hf _ ((hcloses hlen).2.1 hp), (hcloses hlen).2.2⟩,
    fun hlen => ⟨(hfull hlen).1, (hfull hlen).2.1, hf _ (hfull hlen).2.2⟩⟩

theorem closeBank_bank (h : (s.ring.bank (!i)).state = .free ∨ (s.ring.bank (!i)).state = .pending) :
    (closeBank i s).ring.bank i = { s.ring.bank i with state := .pending } ∧
    (closeBank i s).ring.bank (!i) = { state := .filling, records := [] } ∧
    ((s.ring.bank (!i)).state = .pending → flagIsSet .bankDrop (closeBank i s) = true) := by
  rw [closeBank_eq, if_pos h, setFlagIf_ring]
  refine ⟨?_, ?_, fun hp => (flagIsSet_setFlagIf _ _ _ _).mpr (Or.inr ⟨decide_eq_true hp, rfl⟩)⟩
  · cases i <;> rfl
  · cases i <;> rfl

theorem closeBank_left (h : (s.ring.bank (!i)).state = .sending) : closeBank i s = s := by
  rw [closeBank_eq, if_neg (by rw [h]; decide)]

theorem fillBank_spec (h : s.ring.fillingBank = some i) :
    BankFilled r s.cfg.bankLength i s.ring (fillBank r s) := by
  have hlength : ((s.ring.bank i).records ++ [r]).length = (s.ring.bank i).records.length + 1 := List.length_append
  unfold BankFilled
  dsimp only
  rw [hlength]
  refine ⟨fun hlen => ?_, fun hlen => ?_, fun hlen => ?_⟩
  · rw [fillBank_below r h hlen]
    exact ⟨RecordRing.bank_setBank_same .., RecordRing.bank_setBank_not ..⟩
  · rw [fillBank_closes r h hlen]
    have hsame : (s.ring.filled i ((s.ring.bank i).records ++ [r])).bank i =
        { state := .filling, records := (s.ring.bank i).records ++ [r] } := RecordRing.bank_setBank_same ..
    have hother : (s.ring.filled i ((s.ring.bank i).records ++ [r])).bank (!i) = s.ring.bank (!i) :=
      RecordRing.bank_setBank_not ..
    refine ⟨fun ho => ?_, fun ho => ?_, fun ho => ?_⟩
    · obtain ⟨hi, hj, -⟩ := closeBank_bank (s := s.withRing (s.ring.filled i ((s.ring.bank i).records ++ [r])))
        (i := i) (by rw [State.withRing_ring, hother]; exact ho)
      exact ⟨hi.trans (by rw [State.withRing_ring, hsame]), hj⟩
    · exact (closeBank_bank (s := s.withRing (s.ring.filled i ((s.ring.bank i).records ++ [r])))
        (i := i) (by rw [State.withRing_ring, hother]; exact Or.inr ho)).2.2 (by rw [State.withRing_ring, hother]; exact ho)
    · rw [closeBank_left (by rw [State.withRing_ring, hother]; exact ho)]
      exact ⟨hsame, hother⟩
  · rw [fillBank_full r h hlen, setFlag_ring]
    exact ⟨RecordRing.bank_setBank_same .., RecordRing.bank_setBank_not .., (flagIsSet_setFlag _ _ _).mpr (Or.inr rfl)⟩

end Fill

/-! ## A component of a closed second (R130 to R135) -/

section Component

variable {c : Comp} {a : Accum} (instant : NodeTime)

/-- The temperature state a component is corrected with. -/
def tempState (instant : NodeTime) (c : Comp) (s : State) : TempState :=
  (s.acq.probe (s.cfg.comps.get c).probe).stateAt instant

/-- The component's value before it is known to be present. -/
def corrected (instant : NodeTime) (c : Comp) (a : Accum) (s : State) : Corrected :=
  { value := (correctValue s.cfg (s.cfg.comps.get c) (tempState instant c s) (roundHalfAway a.sum a.valid)).1
    edge := (correctValue s.cfg (s.cfg.comps.get c) (tempState instant c s) (roundHalfAway a.sum a.valid)).2
    temp := tempState instant c s }

theorem closeComponent_eq : closeComponent s instant c a =
    if s.cfg.minSamples ≤ a.valid then some (corrected instant c a s) else none := by
  unfold closeComponent presentMean
  dsimp only
  split <;> rfl

theorem closeComponent_iff {x : Corrected} : closeComponent s instant c a = some x ↔
    s.cfg.minSamples ≤ a.valid ∧ x = corrected instant c a s := by
  rw [closeComponent_eq]
  split
  · rename_i h
    exact ⟨fun hx => ⟨h, (Option.some.inj hx).symm⟩, fun hx => congrArg some hx.2.symm⟩
  · rename_i h
    exact ⟨nofun, fun hx => absurd hx.1 h⟩

/-- A present component's mean and corrected value. -/
theorem corrected_spec (hmin : 1 ≤ s.cfg.minSamples) (h : s.cfg.minSamples ≤ a.valid) :
    ∃ mean value, HalfAway a.sum a.valid mean ∧
      CorrectedValue s.cfg (s.cfg.comps.get c) (tempState instant c s) mean value (corrected instant c a s).edge ∧
      (corrected instant c a s).value = value :=
  ⟨_, _, roundHalfAway_spec _ (by omega), correctValue_spec _ _ _ _, rfl⟩

end Component

theorem any_comps {α : Type} (f : Comp → Option α) (p : α → Bool) :
    ((f .x).toList ++ (f .y).toList ++ (f .z).toList).any p = true ↔ ∃ c a, f c = some a ∧ p a = true := by
  simp only [List.any_append, Bool.or_eq_true, List.any_eq_true, Option.mem_toList]
  constructor
  · rintro ((⟨a, h⟩ | ⟨a, h⟩) | ⟨a, h⟩)
    · exact ⟨.x, a, h⟩
    · exact ⟨.y, a, h⟩
    · exact ⟨.z, a, h⟩
  · rintro ⟨c, a, h⟩
    cases c with
    | x => exact Or.inl (Or.inl ⟨a, h⟩)
    | y => exact Or.inl (Or.inr ⟨a, h⟩)
    | z => exact Or.inr ⟨a, h⟩

theorem any_triple (p : Accum → Bool) (acc : Triple Accum) : acc.toList.any p = (p acc.x || p acc.y || p acc.z) := by
  simp only [Triple.toList, List.any_cons, List.any_nil, Bool.or_false, Bool.or_assoc]

/-- The record of a closed second. -/
def secondValues (instant : NodeTime) (acc : Triple Accum) (s : State) : Values :=
  { value :=
      ⟨(closeComponent s instant .x acc.x).map (·.value), (closeComponent s instant .y acc.y).map (·.value),
        (closeComponent s instant .z acc.z).map (·.value)⟩
    valid := acc.map (·.valid)
    temperature := recordTemperature s instant }

def secondFlags (instant : NodeTime) (acc : Triple Accum) (stepped disturbed : Bool) (s : State) : RecordFlags :=
  broughtBy ((closeComponent s instant .x acc.x).toList ++ (closeComponent s instant .y acc.y).toList ++
      (closeComponent s instant .z acc.z).toList)
    { RecordFlags.noFlags with
      stepped := stepped
      blanked := acc.toList.any fun a => decide (0 < a.blanked)
      partly := acc.toList.any fun a => decide (a.valid < 10)
      saturated := acc.toList.any fun a => decide (0 < a.saturated)
      missing := acc.toList.any fun a => decide (0 < a.missing)
      disturbed := disturbed }

def secondRecord (second : Nat) (instant : NodeTime) (acc : Triple Accum) (stepped disturbed : Bool) (s : State) : Record :=
  ownRecord s second 0 (secondFlags instant acc stepped disturbed s) (secondValues instant acc s)

theorem secondValues_get (instant : NodeTime) (acc : Triple Accum) (c : Comp) (s : State) :
    (secondValues instant acc s).value.get c = (closeComponent s instant c (acc.get c)).map (·.value) := by
  cases c <;> rfl

/-- A flag that present components bring: some present component has the property. -/
theorem any_present (instant : NodeTime) (acc : Triple Accum) (p : Corrected → Bool) (s : State) :
    ((closeComponent s instant .x acc.x).toList ++ (closeComponent s instant .y acc.y).toList ++
      (closeComponent s instant .z acc.z).toList).any p = true ↔
    ∃ c : Comp, s.cfg.minSamples ≤ (acc.get c).valid ∧ p (corrected instant c (acc.get c) s) = true := by
  refine (any_comps (fun c => closeComponent s instant c (acc.get c)) p).trans ⟨?_, ?_⟩
  · rintro ⟨c, a, hc, ha⟩
    obtain ⟨hpresent, rfl⟩ := (closeComponent_iff instant).mp hc
    exact ⟨c, hpresent, ha⟩
  · rintro ⟨c, hpresent, ha⟩
    exact ⟨c, _, (closeComponent_iff instant).mpr ⟨hpresent, rfl⟩, ha⟩

section Flags

variable {instant : NodeTime} {acc : Triple Accum} {stepped disturbed : Bool}

theorem secondFlags_tableEdge : (secondFlags instant acc stepped disturbed s).tableEdge = true ↔
    ∃ c : Comp, s.cfg.minSamples ≤ (acc.get c).valid ∧ (corrected instant c (acc.get c) s).edge = true :=
  any_present instant acc (·.edge) s

theorem secondFlags_noTemp : (secondFlags instant acc stepped disturbed s).noTemp = true ↔
    ∃ c : Comp, s.cfg.minSamples ≤ (acc.get c).valid ∧ tempState instant c s = .noTemp := by
  refine (any_present instant acc (fun c => decide (c.temp = .noTemp)) s).trans ?_
  simp only [decide_eq_true_eq]
  rfl

theorem secondFlags_tempHeld : (secondFlags instant acc stepped disturbed s).tempHeld = true ↔
    ∃ (c : Comp) (n : Nat), s.cfg.minSamples ≤ (acc.get c).valid ∧
      (tempState instant c s = .held n ∨ tempState instant c s = .stale n) := by
  refine (any_present instant acc _ s).trans ⟨?_, ?_⟩
  · rintro ⟨c, hpresent, htemp⟩
    generalize hx : corrected instant c (acc.get c) s = x at htemp
    have hstate : tempState instant c s = x.temp := congrArg Corrected.temp hx
    cases hxt : x.temp with
    | noTemp => rw [hxt] at htemp; exact absurd htemp Bool.false_ne_true
    | good n => rw [hxt] at htemp; exact absurd htemp Bool.false_ne_true
    | held n => exact ⟨c, n, hpresent, Or.inl (hstate.trans hxt)⟩
    | stale n => exact ⟨c, n, hpresent, Or.inr (hstate.trans hxt)⟩
  · rintro ⟨c, n, hpresent, h⟩
    refine ⟨c, hpresent, ?_⟩
    generalize hx : corrected instant c (acc.get c) s = x
    have hstate : x.temp = tempState instant c s := (congrArg Corrected.temp hx).symm
    obtain h | h := h <;> rw [hstate, h]

theorem secondFlags_tempStale : (secondFlags instant acc stepped disturbed s).tempStale = true ↔
    ∃ (c : Comp) (n : Nat), s.cfg.minSamples ≤ (acc.get c).valid ∧ tempState instant c s = .stale n := by
  refine (any_present instant acc _ s).trans ⟨?_, ?_⟩
  · rintro ⟨c, hpresent, htemp⟩
    generalize hx : corrected instant c (acc.get c) s = x at htemp
    have hstate : tempState instant c s = x.temp := congrArg Corrected.temp hx
    cases hxt : x.temp with
    | noTemp => rw [hxt] at htemp; exact absurd htemp Bool.false_ne_true
    | good n => rw [hxt] at htemp; exact absurd htemp Bool.false_ne_true
    | held n => rw [hxt] at htemp; exact absurd htemp Bool.false_ne_true
    | stale n => exact ⟨c, n, hpresent, hstate.trans hxt⟩
  · rintro ⟨c, n, hpresent, h⟩
    refine ⟨c, hpresent, ?_⟩
    generalize hx : corrected instant c (acc.get c) s = x
    have hstate : x.temp = tempState instant c s := (congrArg Corrected.temp hx).symm
    rw [hstate, h]

end Flags

/-! ## The disturbed marker (R114) -/

theorem disturbedSecond_iff (second : Nat) (s : State) : disturbedSecond second s = true ↔
    ∃ w, s.acq.ownWin = some w ∧
      (if w.isOpen then ∃ p, s.win.ownProt = some p ∧ p.mark = true else w.mark = true) ∧
      ∃ i < 10, notBefore (plus (ofSeconds second) (-450000000 + 100000000 * (i : Nat))) w.start = true ∧
        later w.finish (plus (ofSeconds second) (-450000000 + 100000000 * (i : Nat))) = true := by
  unfold disturbedSecond ownMark
  rw [Option.any_eq_true]
  refine exists_congr fun w => and_congr_right fun _ => ?_
  rw [Bool.and_eq_true, List.any_eq_true]
  refine and_congr ?_ (exists_congr fun i => and_congr List.mem_range ?_)
  · split
    · rw [Option.any_eq_true]
    · rfl
  · unfold within
    rw [Bool.and_eq_true]

/-! ## The closure (R107, R109, R129, R140) -/

theorem secondClosure_due {g : Gathering} (hrun : s.running = true) (hrole : s.cfg.role = .vector)
    (hg : s.acq.gathering = some g) (h : s.reached (closureInstant g.second) = true) :
    exec .secondClosure s = .next (closure g s) := by
  have hdue : closureDue s = true := by
    unfold closureDue
    rw [hrun, hrole, hg, Option.any_some, h]
    rfl
  show execSecondClosure s = _
  unfold execSecondClosure
  rw [hg]
  exact congrArg Host.Outcome.next (if_pos hdue)

theorem bufferRecord_frame (r : Record) (v : Values) (s : State) :
    bufferRecord r v s = s.withCorr (bufferRecord r v s).corr := by
  unfold bufferRecord
  cases v.value.x with
  | none => rfl
  | some x =>
    cases v.value.y with
    | none => rfl
    | some y =>
      cases v.value.z with
      | none => rfl
      | some z =>
        dsimp only
        split <;> rfl

theorem bufferRecord_joins {r : Record} {v : Values} {x y z : Int} (hv : v.value = ⟨some x, some y, some z⟩)
    (hrole : s.cfg.role = .vector) (hpartner : s.cfg.partner ≠ none) (hd : r.flags.disturbed = false) :
    bufferRecord r v s = s.withCorr { s.corr with
      recentF := (if 64 ≤ s.corr.recentF.length then s.corr.recentF.tail else s.corr.recentF) ++
        [(r.seconds, totalField ⟨x, y, z⟩)] } := by
  unfold bufferRecord
  rw [hv]
  exact if_pos ⟨hrole, Option.isSome_iff_ne_none.mpr hpartner, hd⟩

theorem bufferRecord_left {r : Record} {v : Values}
    (h : s.cfg.partner = none ∨ r.flags.disturbed = true ∨ ∃ c : Comp, v.value.get c = none) :
    bufferRecord r v s = s := by
  unfold bufferRecord
  cases hx : v.value.x with
  | none => rfl
  | some x =>
    cases hy : v.value.y with
    | none => rfl
    | some y =>
      cases hz : v.value.z with
      | none => rfl
      | some z =>
        refine if_neg fun ⟨_, hpartner, hd⟩ => ?_
        obtain h | h | ⟨c, h⟩ := h
        · rw [h] at hpartner
          exact absurd hpartner Bool.false_ne_true
        · rw [h] at hd
          exact absurd hd Bool.true_eq_false.mp
        · cases c with
          | x => exact absurd (hx.symm.trans h) nofun
          | y => exact absurd (hy.symm.trans h) nofun
          | z => exact absurd (hz.symm.trans h) nofun

theorem handRecord_eq (r : Record) (hroom : s.ring.records.length < 16384) : handRecord r s =
    setFlagIf r.flags.tableEdge .tableEdge
      (fillBank r (s.withRing { s.ring with records := s.ring.records ++ [r] })) := by
  unfold handRecord commitOwn
  rw [commit_of_room r hroom]

theorem handRecord_bankFilled {i : Bool} (r : Record) (hroom : s.ring.records.length < 16384) (h : Joins s.ring i) :
    BankFilled r s.cfg.bankLength i s.ring (handRecord r s) := by
  rw [handRecord_eq r hroom]
  have hi : ∀ j rs, RecordRing.bank { s.ring with records := rs } j = s.ring.bank j := fun j rs => by cases j <;> rfl
  have hspec := fillBank_spec (s := s.withRing { s.ring with records := s.ring.records ++ [r] }) r
    (fillingBank_of_joins (g := { s.ring with records := s.ring.records ++ [r] }) (i := i)
      (by unfold Joins; rw [hi, hi]; exact h))
  have hfilled : BankFilled r s.cfg.bankLength i s.ring
      (fillBank r (s.withRing { s.ring with records := s.ring.records ++ [r] })) := by
    unfold BankFilled at hspec ⊢
    rw [State.withRing_ring, hi, hi] at hspec
    exact hspec
  exact hfilled.mono r (by rw [setFlagIf_ring]) (by rw [setFlagIf_ring])
    fun f hf => (flagIsSet_setFlagIf _ _ _ _).mpr (Or.inl hf)

end Sys2Proof.Machine
end

section
/-! A second is closed. -/

namespace Sys2Proof.Machine

variable {s t u : State}

theorem closureInstant_eq (second : Nat) :
    closureInstant second = plus (second % 4294967296 * 1000000000) 540000000 := rfl

/-- The Acquisition Unit after a closure: the next second is gathered (R107, R109). -/
def Acquisition.closed (second : Nat) (a : Acquisition) : Acquisition :=
  { a with
    stepped := false, lastClosed := some second
    gathering := some { second := (second + 1) % 4294967296, acc := Triple.all Accum.empty } }

theorem closure_eq (g : Gathering) (s : State) : closure g s =
    (bufferRecord
      (secondRecord g.second (closureInstant g.second) g.acc s.acq.stepped (disturbedSecond g.second s) s)
      (secondValues (closureInstant g.second) g.acc s)
      (handRecord (secondRecord g.second (closureInstant g.second) g.acc s.acq.stepped (disturbedSecond g.second s) s)
        s)).withAcq (s.acq.closed g.second) := rfl

/-- What a closure's record leaves of the state. -/
structure SecondClosed (r : Record) (v : Values) (s t : State) : Prop where
  records : t.ring.records = s.ring.records ++ [r]
  tableEdge : r.flags.tableEdge = true → flagIsSet .tableEdge t = true
  buffered : ∀ x y z, v.value = ⟨some x, some y, some z⟩ → s.cfg.partner ≠ none → r.flags.disturbed = false →
    t.corr = { s.corr with
      recentF := (if 64 ≤ s.corr.recentF.length then s.corr.recentF.tail else s.corr.recentF) ++
        [(r.seconds, totalField ⟨x, y, z⟩)] }
  unbuffered : s.cfg.partner = none ∨ r.flags.disturbed = true ∨ (∃ c : Comp, v.value.get c = none) → t.corr = s.corr
  kept : t.win = s.win ∧ t.agr = s.agr ∧ t.ref = s.ref ∧ t.line.queue = s.line.queue ∧
    t.line.markSlot = s.line.markSlot
  banks : ∀ i, Joins s.ring i → BankFilled r s.cfg.bankLength i s.ring t

theorem secondClosed_of_room {r : Record} (v : Values) (a : Acquisition) (hrole : s.cfg.role = .vector)
    (hroom : s.ring.records.length < 16384) :
    SecondClosed r v s ((bufferRecord r v (handRecord r s)).withAcq a) := by
  have h := handRecord_room r hroom
  have hcfg : (handRecord r s).cfg = s.cfg := cfg_of_env h.env
  have hcorr : (handRecord r s).corr = s.corr := h.corr
  refine ⟨?_, fun he => ?_, fun x y z hv hpartner hd => ?_, fun hnone => ?_, ?_, fun i hi => ?_⟩
  · rw [bufferRecord_frame]
    exact h.records
  · rw [bufferRecord_frame]
    exact handRecord_tableEdge he
  · rw [bufferRecord_joins hv (by rw [hcfg]; exact hrole) (by rw [hcfg]; exact hpartner) hd, hcorr]
    rfl
  · rw [bufferRecord_left (by rw [hcfg]; exact hnone)]
    exact hcorr
  · rw [bufferRecord_frame]
    exact ⟨h.win, h.agr, h.ref, h.queue, h.markSlot⟩
  · rw [bufferRecord_frame]
    exact (handRecord_bankFilled r hroom hi).mono r rfl rfl fun _ => id

/-- Settles O50: the probes' states, and the closure. -/
theorem secondsAreClosed : Obligations.SecondsAreClosed := by
  refine ⟨fun p x => ⟨stateAt_noTemp x, fun n hn => ⟨stateAt_good x hn, fun last hs hl => stateAt_failed x hn hs hl⟩⟩,
    fun g s hrun hrole hg hmin => ?_⟩
  intro instant hreached hroom present state some'
  have hexec := secondClosure_due hrun hrole hg hreached
  rw [closure_eq, closureInstant_eq] at hexec
  have hclosed := secondClosed_of_room (r := secondRecord g.second instant g.acc s.acq.stepped (disturbedSecond g.second s) s)
    (secondValues instant g.acc s) (s.acq.closed g.second) hrole hroom
  obtain ⟨hwin, hagr, href, hqueue, hmark⟩ := hclosed.kept
  refine ⟨_, _, _, hexec, hclosed.records, rfl, rfl, hrole, rfl, rfl, rfl, rfl, recordTemperature_spec s instant,
    ⟨fun c => (corrected instant c (g.acc.get c) s).edge, fun c => ⟨fun hn => ?_, fun hp => ?_⟩, secondFlags_tableEdge⟩,
    rfl, any_triple (fun a => decide (0 < a.blanked)) g.acc, any_triple (fun a => decide (a.valid < 10)) g.acc,
    any_triple (fun a => decide (0 < a.saturated)) g.acc, any_triple (fun a => decide (0 < a.missing)) g.acc, rfl,
    secondFlags_noTemp, secondFlags_tempHeld,
    secondFlags_tempStale, disturbedSecond_iff g.second s, hclosed.tableEdge, hclosed.buffered, hclosed.unbuffered, rfl,
    hwin, hagr, href, hqueue, hmark, fun second => ?_⟩
  · rw [secondValues_get, closeComponent_eq, if_neg hn]
    rfl
  · obtain ⟨mean, value, hmean, hvalue, heq⟩ := corrected_spec (c := c) instant hmin hp
    exact ⟨mean, value, hmean, hvalue, by
      rw [secondValues_get, closeComponent_eq, if_pos hp]
      exact congrArg some heq⟩
  · intro mine other joined hjoins
    cases second with
    | false => exact hclosed.banks false hjoins
    | true => exact hclosed.banks true hjoins

end Sys2Proof.Machine
end

section
/-! The start sequence, the two resets and their releases. -/

namespace Sys2Proof.Machine

variable {s t u : State}

/-! ## The stages 3 to 8, one after another (R184, R187, R192, R193) -/

/-- The settings that a verdict settles. -/
def settledBy (verdict : Verdict) (image : List Byte) (p : Straps) : Settled :=
  match verdict with
  | .valid => settleImage image
  | .defaults => settleDefaults p

theorem settledBy_valid (image : List Byte) (p : Straps) : settledBy .valid image p = settleImage image := rfl

theorem settledBy_defaults (image : List Byte) (p : Straps) : settledBy .defaults image p = settleDefaults p := rfl

/-- Every block loaded with the settings, once the verdict is given (stages 3 to 5). -/
def loadedBy (verdict : Verdict) (set : Settled) (s : State) : State :=
  { blocksAfterReset set.cfg set.cfg.startSteps s with
    loader := { s.loader with phase := .starting (.flags set.clamped), verdict := verdict, image := [] } }

/-- The verdict that stage 3 gives. -/
def verdictOf (s : State) : Verdict := if s.loader.straps.image then imageVerdict s.loader.image else .defaults

theorem settleStage_eq (s : State) : settleStage s = s.withLoader { s.loader with
    image := [], phase := .starting (.load (settledBy s.loader.verdict s.loader.image s.loader.straps)) } := by
  unfold settleStage settledBy
  cases s.loader.verdict <;> rfl

theorem giveVerdict_eq (s : State) : giveVerdict s =
    s.withLoader { s.loader with phase := .starting .settle, verdict := verdictOf s } := rfl

theorem loadStage_eq (set : Settled) (verdict : Verdict) (s : State) :
    loadStage set (s.withLoader { s.loader with
      phase := .starting (.load set), verdict := verdict, image := [] }) = loadedBy verdict set s := rfl

/-- Stages 3 to 5 from the end of the image read, or of stage 1. -/
theorem takeStage_loads (s : State) : takeStage (takeStage (giveVerdict (atStage .verdict s))) =
    loadedBy (verdictOf s) (settledBy (verdictOf s) s.loader.image s.loader.straps) s := by
  rw [takeStage_settle (s := giveVerdict (atStage .verdict s)) rfl, giveVerdict_eq, settleStage_eq]
  exact (takeStage_load rfl).trans (loadStage_eq _ _ s)

/-! ## The START flags (R179, R192) -/

/-- The flags of a start, set in order. -/
def startFlagged (clamped : Bool) (s : State) : State :=
  setFlagIf clamped .configClamped
    (setFlagIf (decide (s.loader.verdict = .defaults)) .configDefault (setFlag s.loader.pendingCause.flag s))

theorem flagStage_eq (clamped : Bool) (s : State) : flagStage clamped s = (startFlagged clamped s).withLoader
    { (startFlagged clamped s).loader with phase := .starting .note, lastCause := s.loader.pendingCause } := rfl

theorem startFlagged_flags {clamped : Bool} (h : s.flag.flags = PerGroup.all 0#8) :
    (startFlagged clamped s).flag.flags = { PerGroup.all 0#8 with
      start := s.loader.pendingCause.flag.mask ||| (if s.loader.verdict = .defaults then 4#8 else 0#8) |||
        (if clamped then 8#8 else 0#8) } := by
  unfold startFlagged
  rw [setFlagIf_flags, setFlagIf_flags, setFlag_flags, h]
  cases s.loader.pendingCause <;> cases s.loader.verdict <;> cases clamped <;> decide

/-- What the flags leave alone: everything but the flags, the gates, the alarm output and the STATE's slot. -/
structure Flagged (s t : State) : Prop where
  env : t.env = s.env
  ref : t.ref = s.ref
  agr : t.agr = s.agr
  win : t.win = s.win
  acq : t.acq = s.acq
  corr : t.corr = s.corr
  ring : t.ring = s.ring
  line : t.line.butState = s.line.butState

theorem Flagged.trans (h : Flagged s t) (h' : Flagged t u) : Flagged s u :=
  ⟨h'.env.trans h.env, h'.ref.trans h.ref, h'.agr.trans h.agr, h'.win.trans h.win, h'.acq.trans h.acq,
    h'.corr.trans h.corr, h'.ring.trans h.ring, h'.line.trans h.line⟩

theorem flagged_setFlagIf (b : Bool) (f : Flag) (s : State) : Flagged s (setFlagIf b f s) :=
  ⟨setFlagIf_env b f s, setFlagIf_ref b f s, setFlagIf_agr b f s, setFlagIf_win b f s, setFlagIf_acq b f s,
    setFlagIf_corr b f s, setFlagIf_ring b f s, setFlagIf_line b f s⟩

theorem flagged_startFlagged (clamped : Bool) (s : State) : Flagged s (startFlagged clamped s) :=
  ((flagged_setFlagIf true _ s).trans (flagged_setFlagIf _ _ _)).trans (flagged_setFlagIf _ _ _)

/-! ## The RESET note and the start of the clock (R193) -/

/-- What the stages 7 and 8 leave. -/
structure NotedAndStarted (s t : State) : Prop where
  pending : t.pending = s.pending
  tick : t.tick = s.tick
  cfg : t.cfg = s.cfg
  clock : t.clock = s.clock
  loader : t.loader = { s.loader with phase := .running }
  ref : t.ref = s.ref
  agr : t.agr = s.agr
  win : t.win = s.win
  acq : t.acq = s.acq
  corr : t.corr = s.corr
  line : t.line.butState = s.line.butState
  timer : t.flag.stateTimer = some (s.tick + s.cfg.statePeriod * 10000000)
  start : t.flag.flags.start = s.flag.flags.start
  noted : s.ring.records.length < 16384 → t.flag.flags = s.flag.flags ∧
    t.ring = { s.ring with records := s.ring.records ++ [noteRecord (.reset s.loader.pendingCause) s] }

theorem noteStage_room (h : s.ring.records.length < 16384) : noteStage s = atStage .clock
    (s.withRing { s.ring with records := s.ring.records ++ [noteRecord (.reset s.loader.pendingCause) s] }) :=
  congrArg (atStage .clock) (commit_of_room _ h)

theorem takeStage_notes (h : s.loader.phase = .starting .note) : NotedAndStarted s (takeStage (takeStage s)) := by
  rw [takeStage_note h]
  obtain ⟨n, hn⟩ : ∃ n, n = commitNote (.reset s.loader.pendingCause) s := ⟨_, rfl⟩
  have hnoted : Flagged (s.withRing (s.ring.add (noteRecord (.reset s.loader.pendingCause) s))) n :=
    hn ▸ flagged_setFlagIf _ _ _
  have hstart : n.flag.flags.start = s.flag.flags.start := by
    rw [hn]
    refine (congrArg PerGroup.start (setFlagIf_flags _ _ _)).trans ?_
    rfl
  rw [show noteStage s = atStage .clock n from hn ▸ rfl, takeStage_clock (s := atStage .clock n) rfl]
  obtain ⟨hpending, htick, hcfg, hloader, hclock⟩ := State.env_eq hnoted.env
  have htick : n.tick = s.tick := htick
  have hcfg : n.cfg = s.cfg := hcfg
  have hloader : n.loader = s.loader := hloader
  refine ⟨hpending, htick, hcfg, hclock, ?_, hnoted.ref, hnoted.agr, hnoted.win, hnoted.acq, hnoted.corr, hnoted.line, ?_,
    hstart, fun hroom => ?_⟩
  · show { ({ n.loader with phase := .starting .clock } : Loader) with phase := .running } = _
    rw [hloader]
  · show some (n.tick + n.cfg.statePeriod * 10000000) = _
    rw [htick, hcfg]
  · have hroom' : n = s.withRing { s.ring with
        records := s.ring.records ++ [noteRecord (.reset s.loader.pendingCause) s] } := hn.trans (commit_of_room _ hroom)
    rw [hroom']
    exact ⟨rfl, rfl⟩

/-- A note of a node that has just been loaded is tagged 0, in FREE. -/
theorem noteOf_loadedBy (n : Note) (verdict : Verdict) (set : Settled) (s : State) :
    noteOf n (loadedBy verdict set s) =
      { station := set.cfg.station, role := set.cfg.role, seconds := 0, millis := 0, timebase := .free
        flags := RecordFlags.noFlags, body := .note n } := by
  have hreading : (loadedBy verdict set s).reading = 0 := by
    have hseconds : (loadedBy verdict set s).clock.seconds = 0 := rfl
    have hnanoseconds : (loadedBy verdict set s).clock.nanoseconds = 0 := rfl
    unfold State.reading
    rw [hseconds, hnanoseconds, Nat.zero_mul]
  unfold noteOf
  rw [hreading]
  rfl

/-- The stages 6 to 8. -/
theorem takeStage_starts (verdict : Verdict) (set : Settled) (s : State) :
    Started verdict set s (takeStage (takeStage (takeStage (loadedBy verdict set s)))) := by
  obtain ⟨l, hl⟩ : ∃ l, l = loadedBy verdict set s := ⟨_, rfl⟩
  have hphase : l.loader.phase = .starting (.flags set.clamped) := by rw [hl]; rfl
  rw [← hl, takeStage_flags hphase, flagStage_eq]
  have hflagged := flagged_startFlagged set.clamped l
  have hflags := startFlagged_flags (s := l) (clamped := set.clamped) (by rw [hl]; rfl)
  generalize startFlagged set.clamped l = f at hflagged hflags ⊢
  obtain ⟨hpending, htick, hcfg, hloader, hclock⟩ := State.env_eq hflagged.env
  have h := takeStage_notes (s := f.withLoader
    { f.loader with phase := .starting .note, lastCause := l.loader.pendingCause }) rfl
  generalize takeStage (takeStage (f.withLoader
    { f.loader with phase := .starting .note, lastCause := l.loader.pendingCause })) = u at h ⊢
  refine ⟨h.pending.trans (hpending.trans (by rw [hl]; rfl)), h.tick.trans (htick.trans (by rw [hl]; rfl)),
    h.cfg.trans (hcfg.trans (by rw [hl]; rfl)), h.loader.trans ?loader, h.clock.trans (hclock.trans (by rw [hl]; rfl)),
    h.ref.trans (hflagged.ref.trans (by rw [hl]; rfl)), h.agr.trans (hflagged.agr.trans (by rw [hl]; rfl)),
    h.win.trans (hflagged.win.trans (by rw [hl]; rfl)), h.corr.trans (hflagged.corr.trans (by rw [hl]; rfl)),
    line_of_butState (h.line.trans (hflagged.line.trans (by rw [hl]; rfl))),
    h.acq.trans (hflagged.acq.trans (by rw [hl]; rfl)), h.timer.trans ?timer, h.start.trans ?start, fun hroom => ?note⟩
  case loader =>
    rw [State.withLoader_loader, hloader, hl]
    rfl
  case timer =>
    rw [State.withLoader_tick, State.withLoader_cfg, htick, hcfg, hl]
    rfl
  case start =>
    rw [State.withLoader_flag, hflags, hl]
    show s.loader.pendingCause.flag.mask ||| (if verdict = .defaults then 4#8 else 0#8) ||| _ = _
    cases s.loader.pendingCause <;> rfl
  case note =>
    obtain ⟨hflags', hring⟩ := h.noted (by rw [State.withLoader_ring, hflagged.ring, hl]; exact hroom)
    rw [hflags', hring, State.withLoader_flag, hflags, State.withLoader_ring, hflagged.ring]
    refine ⟨rfl, rfl, rfl, rfl, ?_⟩
    rw [noteRecord_congr (t := l) _ (by rw [State.withLoader_cfg, hcfg]) (by rw [State.withLoader_clock, hclock]),
      State.withLoader_loader, hloader, hl, noteOf_loadedBy]
    rfl

/-- The stages from the third to the eighth start the node with what the verdict settles (R184). -/
theorem stagesThrough_starts (s : State) : Started (verdictOf s)
    (settledBy (verdictOf s) s.loader.image s.loader.straps) s (stagesThrough 8 s) := by
  rw [stagesThrough_eight, takeStage_loads]
  exact takeStage_starts _ _ s

/-- The stages through the one named, as stages taken one after another. -/
theorem stagesThrough_eq (n : Nat) (s : State) : stagesThrough n s =
    takeStage^[n - 2] { s with loader := { s.loader with phase := .starting .verdict } } :=
  takeStages_eq_iterate _ _

end Sys2Proof.Machine
end

section
/-! The two resets, their releases, and the defaults. -/

namespace Sys2Proof.Machine

variable {s t u : State}

theorem afterReset_steps (cfg : Settings) (a b : Triple Int) :
    { Acquisition.afterReset cfg a with steps := b } = Acquisition.afterReset cfg b := by
  unfold Acquisition.afterReset
  dsimp only

theorem externalReset_due (hext : s.loader.ext = false) (hlow : 64 ≤ s.loader.lowCount) :
    exec .externalReset s = .next (resetBlocks s.acq.steps s.ring.afterExternal
      { s.loader with
        phase := .held, ext := true, verdict := .defaults, image := []
        pendingCause := if s.loader.begun then .external else s.loader.pendingCause } s) := by
  have hdue : externalDue s = true := by
    unfold externalDue
    rw [hext]
    exact decide_eq_true hlow
  exact congrArg Host.Outcome.next (if_pos hdue)

/-! ## The defaults (R190, R191) -/

theorem role_ofCode_min (n : Nat) :
    Role.ofCode (min n 2) = if n = 0 then .vector else if n = 1 then .scalar else .timing := by
  obtain rfl | rfl | h : n = 0 ∨ n = 1 ∨ 2 ≤ n := by omega
  · rfl
  · rfl
  · rw [Nat.min_eq_right h, if_neg (by omega), if_neg (by omega)]
    rfl

theorem settleDefaults_eq (p : Straps) (h : p.role < 4) : settleDefaults p =
    { clamped := decide (p.role = 3)
      cfg := { Settings.beforeLoad with
        station := p.station, role := if p.role = 0 then .vector else if p.role = 1 then .scalar else .timing
        compAffect := 1#16 <<< p.station } } := by
  have hrole : decide (2 < p.role) = decide (p.role = 3) := decide_eq_decide.mpr (by omega)
  have hmasks : ({ time := allFlags.time &&& allFlags.time, line := allFlags.line &&& allFlags.line
                   data := allFlags.data &&& allFlags.data, window := allFlags.window &&& allFlags.window
                   start := allFlags.start &&& allFlags.start } : PerGroup Byte) = allFlags := by decide
  unfold settleDefaults derive StationSet.add StationSet.remove
  rw [hrole, role_ofCode_min, BitVec.zero_or]
  dsimp only
  rw [show Settings.beforeLoad.masks = allFlags from rfl, hmasks,
    show Settings.beforeLoad.listen &&& ~~~(1#16 <<< p.station) = 0#16 from BitVec.zero_and]
  rfl

/-! ## The end of the last reset (R180, R181, R184, R185) -/

theorem strapsRead_eq {p : Straps} (h : p.wellFormed = true) : strapsRead p = p := by
  unfold Straps.wellFormed at h
  rw [Bool.and_eq_true, decide_eq_true_eq, decide_eq_true_eq] at h
  unfold strapsRead
  rw [Nat.mod_eq_of_lt h.1, Nat.mod_eq_of_lt h.2]

/-- What the release of a reset is, with no other in force: the straps are read, and the image or the stages follow. -/
def begunWith (p : Straps) (l : Loader) : Loader := { l with begun := true, straps := p, image := [] }

theorem beginStart_image {p : Straps} (h : p.wellFormed = true) (himage : p.image = true) (n : Nat) (s : State) :
    beginStart p n s = s.withLoader { begunWith p s.loader with phase := .readingImage, readFrom := s.tick } := by
  unfold beginStart
  dsimp only
  rw [strapsRead_eq h, if_pos himage]
  rfl

theorem beginStart_noImage {p : Straps} (h : p.wellFormed = true) (himage : p.image = false) (n : Nat) (s : State) :
    beginStart p n s = stagesThrough n (s.withLoader (begunWith p s.loader)) := by
  unfold beginStart
  dsimp only
  rw [strapsRead_eq h, if_neg (by rw [himage]; exact Bool.false_ne_true)]
  rfl

/-- A start without an image takes the straps and the defaults (R187, R191). -/
theorem stagesThrough_noImage {p : Straps} (himage : p.image = false) (s : State) :
    Started .defaults (settleDefaults p) (s.withLoader (begunWith p s.loader))
      (stagesThrough 8 (s.withLoader (begunWith p s.loader))) := by
  have h := stagesThrough_starts (s.withLoader (begunWith p s.loader))
  have hverdict : verdictOf (s.withLoader (begunWith p s.loader)) = .defaults :=
    if_neg (by rw [show (s.withLoader (begunWith p s.loader)).loader.straps.image = p.image from rfl, himage]
               exact Bool.false_ne_true)
  rw [hverdict] at h
  exact h

/-- A reset that ends: what is over, and what follows if no other reset is in force. -/
theorem beginStart_cases {p : Straps} (h : p.wellFormed = true) (s : State) :
    (p.image = true → ∀ n, beginStart p n s =
      s.withLoader { begunWith p s.loader with phase := .readingImage, readFrom := s.tick }) ∧
    (p.image = false →
      (∀ n, beginStart p n s =
        takeStage^[n - 2] { s with loader := { begunWith p s.loader with phase := .starting .verdict } }) ∧
      Started .defaults (settleDefaults p) (s.withLoader (begunWith p s.loader)) (beginStart p 8 s)) := by
  refine ⟨fun himage n => beginStart_image h himage n s, fun himage => ⟨fun n => ?_, ?_⟩⟩
  · rw [beginStart_noImage h himage, stagesThrough_eq]
    rfl
  · rw [beginStart_noImage h himage]
    exact stagesThrough_noImage himage s

theorem powerOnRelease_due (p : Straps) (n : Nat) (hon : s.loader.powerOn = true) (hgood : 65536 ≤ s.loader.goodTicks) :
    exec (.powerOnRelease ⟨p, n⟩) s = .next (if s.loader.ext then s.withLoader { s.loader with powerOn := false }
      else beginStart p n (s.withLoader { s.loader with powerOn := false })) := by
  have hdone : powerOnDone s = true := by
    unfold powerOnDone
    rw [hon, Bool.true_and, decide_eq_true_eq]
    exact hgood
  show execPowerOnRelease ⟨p, n⟩ s = _
  unfold execPowerOnRelease
  rw [if_pos hdone]

theorem resetPinRelease_due (p : Straps) (n : Nat) (hext : s.loader.ext = true) (hpin : s.loader.pinHigh = true) :
    exec (.resetPinRelease ⟨p, n⟩) s = .next (if s.loader.powerOn then s.withLoader { s.loader with ext := false }
      else beginStart p n (s.withLoader { s.loader with ext := false })) := by
  have hdone : pinReleased s = true := by
    unfold pinReleased
    rw [hext, hpin]
    rfl
  exact congrArg Host.Outcome.next (if_pos hdone)

/-- Settles O58: the power-on reset, the external one, the defaults, and the two releases. -/
theorem resetsAndReleases : Obligations.ResetsAndReleases := by
  refine ⟨fun s => rfl, fun s hext hlow => ?external, fun p hp => ?defaults, fun p s hp => ⟨?on, ?pin⟩⟩
  case external =>
    have hacq : { State.reset.acq with steps := s.acq.steps } = Acquisition.afterReset Settings.beforeLoad s.acq.steps :=
      afterReset_steps _ _ _
    rw [externalReset_due hext hlow, hacq]
    rfl
  case defaults =>
    unfold Straps.wellFormed at hp
    rw [Bool.and_eq_true, decide_eq_true_eq, decide_eq_true_eq] at hp
    exact settleDefaults_eq p hp.2
  case on =>
    intro hon hgood over'
    have hrelease := fun n => powerOnRelease_due p n hon hgood
    obtain ⟨himage, hstart⟩ := beginStart_cases hp (s.withLoader over')
    refine ⟨fun hext n => ?_, fun hext hi n => ?_, fun hext hi => ⟨fun n => ?_, _, hrelease 8, ?_⟩⟩
    · rw [hrelease, if_pos hext]
      rfl
    · rw [hrelease, if_neg (by rw [hext]; exact Bool.false_ne_true)]
      exact congrArg Host.Outcome.next (himage hi n)
    · rw [hrelease, if_neg (by rw [hext]; exact Bool.false_ne_true)]
      exact congrArg Host.Outcome.next ((hstart hi).1 n)
    · rw [if_neg (by rw [hext]; exact Bool.false_ne_true)]
      exact (hstart hi).2
  case pin =>
    intro hext hpin over'
    have hrelease := fun n => resetPinRelease_due p n hext hpin
    obtain ⟨himage, hstart⟩ := beginStart_cases hp (s.withLoader over')
    refine ⟨fun hon n => ?_, fun hon hi n => ?_, fun hon hi => ⟨fun n => ?_, _, hrelease 8, ?_⟩⟩
    · rw [hrelease, if_pos hon]
      rfl
    · rw [hrelease, if_neg (by rw [hon]; exact Bool.false_ne_true)]
      exact congrArg Host.Outcome.next (himage hi n)
    · rw [hrelease, if_neg (by rw [hon]; exact Bool.false_ne_true)]
      exact congrArg Host.Outcome.next ((hstart hi).1 n)
    · rw [if_neg (by rw [hon]; exact Bool.false_ne_true)]
      exact (hstart hi).2

end Sys2Proof.Machine
end

section
/-! The image read, the verdict, and the six stages taken alone. -/

namespace Sys2Proof.Machine

variable {s t u : State}

/-! ## The image read (R186, R187) -/

theorem natAt_take {k n m : Nat} (h : k + n ≤ m) (bs : List Byte) : natAt k n (bs.take m) = natAt k n bs := by
  unfold natAt bytesAt
  rw [List.drop_take, List.take_take, Nat.min_eq_left (by omega)]

theorem takenBytes_take {n m : Nat} (h : n ≤ m) (levels : List Bool) :
    (takenBytes m levels).take n = takenBytes n levels := by
  rw [takenBytes_eq, takenBytes_eq, ← List.map_take, List.take_range, Nat.min_eq_left h]

/-- The bytes that are taken: the whole image, or the header alone. -/
theorem bytesRead_eq (levels : List Bool) : bytesRead levels =
    if natAt 0 1 ((takenBytes 466 levels).take 3) = 1 ∧ natAt 1 2 ((takenBytes 466 levels).take 3) = 461 then
      takenBytes 466 levels
    else (takenBytes 466 levels).take 3 := by
  rw [takenBytes_take (by decide)]
  unfold bytesRead headerRead
  by_cases h : natAt 0 1 (takenBytes 3 levels) = 1 ∧ natAt 1 2 (takenBytes 3 levels) = 461
  · rw [if_pos h, if_pos (decide_eq_true h)]
    rfl
  · rw [if_neg h, if_neg (by rw [decide_eq_true_eq]; exact h)]

theorem imageRead_due {levels : List Bool} {held : List Byte} (n : Nat) (hheld : bytesRead levels = held)
    (hphase : s.loader.phase = .readingImage) (htime : s.loader.readFrom + 40 * (3 + held.length) ≤ s.tick) :
    exec (.imageRead ⟨levels, n⟩) s = .next (stagesThrough n (s.withLoader { s.loader with image := held })) := by
  have hdue : imageDue held s = true := by
    unfold imageDue
    rw [hphase, decide_eq_true rfl, Bool.true_and, decide_eq_true_eq]
    exact htime
  show execImageRead ⟨levels, n⟩ s = _
  unfold execImageRead
  rw [hheld, if_pos hdue]
  rfl

theorem imageVerdict_iff (img : List Byte) : imageVerdict img = .valid ↔
    natAt 0 1 img = 1 ∧ natAt 1 2 img = 461 ∧ (crc (img.take 464)).toNat = natAt 464 2 img := by
  unfold imageVerdict
  rw [ite_eq_left_iff]
  refine ⟨fun h => by_contra fun hn => absurd (h hn) nofun, fun h hn => absurd h hn⟩

theorem Verdict.eq_defaults {v : Verdict} (h : v ≠ .valid) : v = .defaults := by
  cases v with
  | valid => exact absurd rfl h
  | defaults => rfl

/-- A start with the image strap takes the image by its verdict (R187, R191). -/
theorem stagesThrough_image (held : List Byte) (h : s.loader.straps.image = true) :
    Started (imageVerdict held) (settledBy (imageVerdict held) held s.loader.straps) s
      (stagesThrough 8 (s.withLoader { s.loader with image := held })) := by
  have hstarted := stagesThrough_starts (s.withLoader { s.loader with image := held })
  have hverdict : verdictOf (s.withLoader { s.loader with image := held }) = imageVerdict held := if_pos h
  rw [hverdict] at hstarted
  exact hstarted

/-! ## The stages, each alone (R187, R192, R193) -/

theorem verdictOf_iff (s : State) : verdictOf s = .valid ↔ s.loader.straps.image = true ∧
    natAt 0 1 s.loader.image = 1 ∧ natAt 1 2 s.loader.image = 461 ∧
    (crc (s.loader.image.take 464)).toNat = natAt 464 2 s.loader.image := by
  unfold verdictOf
  rw [← imageVerdict_iff]
  by_cases h : s.loader.straps.image = true
  · rw [if_pos h]
    exact ⟨fun hv => ⟨h, hv⟩, And.right⟩
  · rw [if_neg h]
    exact ⟨nofun, fun hv => absurd hv.1 h⟩

theorem startFlagged_eq (clamped : Bool) (s : State) : startFlagged clamped s =
    if clamped then
      setFlag .configClamped
        (if s.loader.verdict = .defaults then setFlag .configDefault (setFlag s.loader.pendingCause.flag s)
        else setFlag s.loader.pendingCause.flag s)
    else if s.loader.verdict = .defaults then setFlag .configDefault (setFlag s.loader.pendingCause.flag s)
    else setFlag s.loader.pendingCause.flag s := by
  unfold startFlagged setFlagIf
  by_cases h : s.loader.verdict = .defaults
  · rw [if_pos h, if_pos (decide_eq_true h)]
  · rw [if_neg h, decide_eq_false h]
    rfl

theorem takeStage_flagged {clamped : Bool} (h : s.loader.phase = .starting (.flags clamped)) :
    takeStage s = (startFlagged clamped s).withLoader
      { s.loader with phase := .starting .note, lastCause := s.loader.pendingCause } := by
  have hloader : (startFlagged clamped s).loader = s.loader := (State.env_eq (flagged_startFlagged clamped s).env).2.2.2.1
  rw [takeStage_flags h, flagStage_eq, hloader]

theorem takeStage_noted (h : s.loader.phase = .starting .note) (hroom : s.ring.records.length < 16384) :
    takeStage s = { s with
      loader := { s.loader with phase := .starting .clock }
      ring := { s.ring with records := s.ring.records ++ [noteOf (.reset s.loader.pendingCause) s] } } := by
  rw [takeStage_note h, noteStage_room hroom, noteRecord_congr (t := s) _ rfl rfl]
  rfl

theorem takeStage_clocked (h : s.loader.phase = .starting .clock) : takeStage s = { s with
    loader := { s.loader with phase := .running }
    flag := { s.flag with stateTimer := some (s.tick + s.cfg.statePeriod * 10000000) } } :=
  takeStage_clock h

end Sys2Proof.Machine
end

section
/-! The image's fields settled, and their ranges. -/

namespace Sys2Proof.Machine

/-! ## Numbers held within their ranges (R188) -/

theorem clampNat_settles {lo hi : Nat} (h : lo ≤ hi) (v : Nat) : Settles lo hi v (clampNat lo hi v) := by
  unfold Settles clampNat
  split_ifs <;> omega

theorem clampNat_bounds {lo hi : Nat} (h : lo ≤ hi) (v : Nat) : lo ≤ clampNat lo hi v ∧ clampNat lo hi v ≤ hi := by
  unfold clampNat
  omega

theorem min_settles (hi v : Nat) : Settles 0 hi v ((min v hi : Nat) : Int) := by
  unfold Settles
  split_ifs <;> omega

theorem settlePeriod_eq (p : Nat) :
    settlePeriod p = if 16 ≤ p then 16 else if 8 ≤ p then 8 else if 4 ≤ p then 4 else 2 := by
  unfold settlePeriod
  split_ifs <;> omega

theorem settlePeriod_mem (p : Nat) : settlePeriod p ∈ [2, 4, 8, 16] := by
  unfold settlePeriod
  split_ifs <;> decide

/-! ## Station sets (R190, R194) -/

theorem getLsbD_one_shiftLeft {k : Nat} (h : k < 16) (p : Nat) : (1#16 <<< p).getLsbD k = decide (k = p) := by
  rw [BitVec.getLsbD_shiftLeft, BitVec.getLsbD_one, Bool.eq_iff_iff]
  simp only [Bool.and_eq_true, Bool.not_eq_true', decide_eq_true_eq, decide_eq_false_iff_not]
  omega

theorem add_getLsbD {k : Nat} (h : k < 16) (set : StationSet) (p : Nat) :
    (StationSet.add set p).getLsbD k = true ↔ k = p ∨ set.getLsbD k = true := by
  unfold StationSet.add
  rw [BitVec.getLsbD_or, getLsbD_one_shiftLeft h, Bool.or_eq_true, decide_eq_true_eq]
  exact or_comm

theorem remove_getLsbD {k : Nat} (h : k < 16) (set : StationSet) (p : Nat) :
    (StationSet.remove set p).getLsbD k = true ↔ k ≠ p ∧ set.getLsbD k = true := by
  unfold StationSet.remove
  rw [BitVec.getLsbD_and, BitVec.getLsbD_not, getLsbD_one_shiftLeft h, decide_eq_true h, Bool.true_and, Bool.and_eq_true,
    Bool.not_eq_true', decide_eq_false_iff_not]
  exact and_comm

theorem setAt_getLsbD {k : Nat} (h : k < 16) (at_ : Nat) (img : List Byte) :
    (setAt at_ img).getLsbD k = (natAt at_ 2 img).testBit k := by
  unfold setAt
  rw [BitVec.getLsbD_ofNat, decide_eq_true h, Bool.true_and]

/-! ## Tables (R189) -/

theorem risingFrom_prefix (t : Int) (bs : List Breakpoint) : risingFrom t bs <+: bs := by
  induction bs generalizing t with
  | nil => exact List.prefix_refl _
  | cons b bs ih =>
    unfold risingFrom
    split
    · exact (List.prefix_cons_inj b).mpr (ih _)
    · exact List.nil_prefix

theorem risingFrom_rises (t : Int) (bs : List Breakpoint) : (∀ b ∈ risingFrom t bs, t < b.temperature) ∧
    (risingFrom t bs).Pairwise (fun a b => a.temperature < b.temperature) := by
  induction bs generalizing t with
  | nil => exact ⟨nofun, List.Pairwise.nil⟩
  | cons b bs ih =>
    unfold risingFrom
    split
    · rename_i h
      obtain ⟨habove, hpairwise⟩ := ih b.temperature
      refine ⟨fun x hx => ?_, List.pairwise_cons.mpr ⟨habove, hpairwise⟩⟩
      obtain rfl | hx := List.mem_cons.mp hx
      · exact h
      · exact h.trans (habove x hx)
    · exact ⟨nofun, List.Pairwise.nil⟩

/-- Where a table ceases to rise, the next breakpoint's temperature is not above the last one's. -/
theorem risingFrom_stops (b : Breakpoint) (bs : List Breakpoint) {last next : Breakpoint}
    (hlast : (b :: risingFrom b.temperature bs).getLast? = some last)
    (hnext : bs[(risingFrom b.temperature bs).length]? = some next) : next.temperature ≤ last.temperature := by
  induction bs generalizing b with
  | nil => exact absurd hnext nofun
  | cons c cs ih =>
    unfold risingFrom at hlast hnext
    by_cases h : b.temperature < c.temperature
    · rw [if_pos h] at hlast hnext
      exact ih c (by rwa [List.getLast?_cons_cons] at hlast) hnext
    · rw [if_neg h] at hlast hnext
      obtain rfl : b = last := Option.some.inj hlast
      obtain rfl : c = next := Option.some.inj hnext
      exact not_lt.mp h

theorem cutTable_prefix (bs : List Breakpoint) : cutTable bs <+: bs := by
  cases bs with
  | nil => exact List.prefix_refl _
  | cons b bs => exact (List.prefix_cons_inj b).mpr (risingFrom_prefix _ _)

theorem cutTable_pairwise (bs : List Breakpoint) :
    (cutTable bs).Pairwise (fun a b => a.temperature < b.temperature) := by
  cases bs with
  | nil => exact List.Pairwise.nil
  | cons b bs =>
    obtain ⟨habove, hpairwise⟩ := risingFrom_rises b.temperature bs
    exact List.pairwise_cons.mpr ⟨habove, hpairwise⟩

theorem tableSettled_cut (read : List Breakpoint) : TableSettled read (cutTable (read.map settleBreakpoint)) := by
  refine ⟨read.map settleBreakpoint, ?_, cutTable_prefix _, cutTable_pairwise _, fun a ha => ?_, fun last next hl hn => ?_⟩
  · rw [List.forall₂_map_right_iff, List.forall₂_same]
    exact fun b _ => ⟨rfl, rfl, rfl⟩
  · cases read with
    | nil => exact absurd ha nofun
    | cons b bs => exact ha
  · cases read with
    | nil => exact absurd hl nofun
    | cons b bs => exact risingFrom_stops (settleBreakpoint b) (bs.map settleBreakpoint) hl hn

theorem placedTable_eq (n : Nat) (img : List Byte) : placedTable n img = (rawComp n img).places := by
  unfold placedTable rawComp
  rw [placed_eq_natAt]
  refine List.map_congr_left fun i _ => ?_
  rw [placedSigned_eq_intAt _ (by decide), placedSigned_eq_intAt _ (by decide), placedSigned_eq_intAt _ (by decide),
    show 80 + 129 * n + 8 * i = 78 + 129 * n + 8 * i + 2 by omega,
    show 84 + 129 * n + 8 * i = 78 + 129 * n + 8 * i + 6 by omega]
  rfl

theorem compSettled (n : Nat) (img : List Byte) : CompSettled n img (compOf (settleComp (rawComp n img))) := by
  unfold CompSettled
  rw [placedTable_eq, placed_eq_natAt, placed_eq_natAt, placedSigned_eq_intAt _ (by decide)]
  exact ⟨clampNat_settles (by decide) _, rfl, min_settles 3 _, tableSettled_cut _⟩

end Sys2Proof.Machine
end

section
/-! The image's settings field by field, and the settings of every start within their ranges. -/

namespace Sys2Proof.Machine

variable {s t u : State}

/-! ## The derived settings (R188, R190) -/

theorem settlePartner_spec (station code : Nat) :
    (if settlePartner station code = 255 then none else some (settlePartner station code)) =
      if code ≤ 15 ∧ code ≠ station then some code else none := by
  unfold settlePartner
  by_cases h : code ≤ 15 ∧ code ≠ station
  · rw [if_pos h, if_pos h, if_neg (by omega)]
  · rw [if_neg h, if_neg h, if_pos rfl]

theorem settlePartner_getD (station code : Nat) :
    (if settlePartner station code = 255 then none else some (settlePartner station code)).getD 255 =
      settlePartner station code := by
  split
  · rename_i h
    exact h.symm
  · rfl

/-- The listen set that a partner and a station derive. -/
def derivedListen (station : Nat) (partner : Option Nat) (listen : StationSet) : StationSet :=
  match partner with
  | none => StationSet.remove listen station
  | some p => StationSet.add (StationSet.remove listen station) p

theorem derivedListen_getLsbD {k : Nat} (hk : k < 16) (station : Nat) (partner : Option Nat) (listen : StationSet) :
    (derivedListen station partner listen).getLsbD k = true ↔
      partner = some k ∨ (k ≠ station ∧ listen.getLsbD k = true) := by
  cases partner with
  | none =>
    refine (remove_getLsbD hk _ _).trans ⟨Or.inr, fun h => h.resolve_left nofun⟩
  | some p =>
    refine (add_getLsbD hk _ _).trans (or_congr ?_ (remove_getLsbD hk _ _))
    rw [Option.some.injEq]
    exact eq_comm

theorem derive_eq (c : Settings) : derive c = { c with
    compAffect := StationSet.add c.compAffect c.station
    listen := derivedListen c.station c.partner c.listen
    masks :=
      { time := c.masks.time &&& 0x3F#8, line := c.masks.line &&& 0x1F#8, data := c.masks.data &&& 0x7F#8
        window := c.masks.window &&& 0x0F#8, start := c.masks.start &&& 0x0F#8 } } := by
  unfold derive derivedListen
  cases c.partner <;> rfl

/-! ## The fields as settled (R188 to R190, R198) -/

theorem settleImage_probes {img : List Byte} {j : Nat} {p : ProbeSettings}
    (h : (settleImage img).cfg.probes[j]? = some p) : p = settleProbe (rawProbe j img) := by
  have h' : (((List.range 4).map fun j => rawProbe j img).map settleProbe)[j]? = some p := h
  rw [List.getElem?_map, List.getElem?_map, Option.map_eq_some_iff] at h'
  obtain ⟨q, hq, rfl⟩ := h'
  rw [Option.map_eq_some_iff] at hq
  obtain ⟨i, hi, rfl⟩ := hq
  obtain ⟨hlt, rfl⟩ := List.getElem?_eq_some_iff.mp hi
  rw [List.getElem_range]

theorem settleImage_listen (img : List Byte) : (settleImage img).cfg.listen =
    derivedListen (settleImage img).cfg.station (settleImage img).cfg.partner (setAt 18 img) := by
  unfold settleImage
  rw [derive_eq]
  rfl

theorem settleImage_compAffect (img : List Byte) : (settleImage img).cfg.compAffect =
    StationSet.add (setAt 60 img) (settleImage img).cfg.station := rfl

theorem fieldsSettled_settleImage (img : List Byte) : FieldsSettled img (settleImage img).cfg := by
  unfold FieldsSettled
  simp only [placed_eq_natAt, placedSigned_eq_intAt _ (show 0 < 2 by decide)]
  refine ⟨⟨min_settles 15 _, role_ofCode_min _, settlePeriod_eq _, rfl, rfl, clampNat_settles (by decide) _,
    clampNat_settles (by decide) _, fun k hk => ?_, settlePartner_spec _ _, clampNat_settles (by decide) _,
    clampNat_settles (by decide) _⟩, ⟨compSettled 0 img, compSettled 1 img, compSettled 2 img,
    clampNat_settles (by decide) _, rfl, fun j p hp => ?_⟩, clampNat_settles (by decide) _, fun k hk => ?_, fun k hk => ?_,
    clampNat_settles (by decide) _, clampNat_settles (by decide) _, clampNat_settles (by decide) _,
    clampNat_settles (by decide) _, clampNat_settles (by decide) _, rfl⟩
  · rw [settleImage_listen, derivedListen_getLsbD hk, setAt_getLsbD hk]
  · rw [settleImage_probes hp]
    exact ⟨rfl, clampNat_settles (by decide) _⟩
  · rw [settleImage_compAffect, add_getLsbD hk, setAt_getLsbD hk]
  · exact setAt_getLsbD hk 62 img

/-! ## The ranges (R188 to R191) -/

/-- What a derived setting is, whatever it derives from (R190). -/
theorem derive_inRange {c : Settings} (hstation : c.station ≤ 15)
    (hpartner : ∀ p, c.partner = some p → p ≤ 15 ∧ p ≠ c.station) :
    ((derive c).compAffect.getLsbD (derive c).station = true ∧ (derive c).listen.getLsbD (derive c).station = false ∧
      ∀ p, (derive c).partner = some p →
        p ≤ 15 ∧ p ≠ (derive c).station ∧ (derive c).listen.getLsbD p = true) ∧
    ((derive c).masks.time &&& 0xC0#8 = 0#8 ∧ (derive c).masks.line &&& 0xE0#8 = 0#8 ∧
      (derive c).masks.data &&& 0x80#8 = 0#8 ∧ (derive c).masks.window &&& 0xF0#8 = 0#8 ∧
      (derive c).masks.start &&& 0xF0#8 = 0#8) := by
  have hand : ∀ b m m' : Byte, m &&& m' = 0#8 → b &&& m &&& m' = 0#8 := fun b m m' h => by
    rw [BitVec.and_assoc, h, BitVec.and_zero]
  have hlt : c.station < 16 := Nat.lt_succ_of_le hstation
  rw [derive_eq]
  refine ⟨⟨(add_getLsbD hlt _ _).mpr (Or.inl rfl), Bool.eq_false_iff.mpr fun h => ?_, fun p hp => ?_⟩,
    hand _ _ _ (by decide), hand _ _ _ (by decide), hand _ _ _ (by decide), hand _ _ _ (by decide), hand _ _ _ (by decide)⟩
  · obtain h | h := (derivedListen_getLsbD hlt _ _ _).mp h
    · exact (hpartner _ h).2 rfl
    · exact h.1 rfl
  · obtain ⟨hle, hne⟩ := hpartner p hp
    exact ⟨hle, hne, (derivedListen_getLsbD (by omega) _ _ _).mpr (Or.inl hp)⟩

/-- A component's settings within their ranges. -/
def CompInRange (k : CompSettings) : Prop :=
  1 ≤ k.factor ∧ k.factor ≤ 20000 ∧ -32 ≤ k.startSteps ∧ k.startSteps ≤ 32 ∧ k.probe ≤ 3 ∧ k.table.length ≤ 16 ∧
    k.table.Pairwise (fun a b => a.temperature < b.temperature) ∧
    ∀ b ∈ k.table, -5000 ≤ b.temperature ∧ b.temperature ≤ 7000 ∧ -1000000 ≤ b.offset ∧ b.offset ≤ 1000000 ∧
      -10000 ≤ b.scale ∧ b.scale ≤ 10000

theorem compInRange_settled (n : Nat) (img : List Byte) : CompInRange (compOf (settleComp (rawComp n img))) := by
  obtain ⟨hfactor, hfactor'⟩ := clampNat_bounds (lo := 1) (hi := 20000) (by decide) (natAt (26 + 4 * n) 2 img)
  obtain ⟨hsteps, hsteps'⟩ := clampTo_bounds (lo := -32) (hi := 32) (by decide) (intAt (28 + 4 * n) 1 img)
  refine ⟨hfactor, hfactor', hsteps, hsteps', Nat.min_le_right _ _, ?_, cutTable_pairwise _, fun b hb => ?_⟩
  · refine (cutTable_prefix _).length_le.trans ?_
    rw [List.length_map]
    unfold rawComp
    rw [List.length_map, List.length_range]
    exact Nat.min_le_right _ _
  · obtain ⟨b, -, rfl⟩ := List.mem_map.mp ((cutTable_prefix _).subset hb)
    obtain ⟨ht, ht'⟩ := clampTo_bounds (lo := -5000) (hi := 7000) (by decide) b.temperature
    obtain ⟨ho, ho'⟩ := clampTo_bounds (lo := -1000000) (hi := 1000000) (by decide) b.offset
    obtain ⟨hs, hs'⟩ := clampTo_bounds (lo := -10000) (hi := 10000) (by decide) b.scale
    exact ⟨ht, ht', ho, ho', hs, hs'⟩

theorem role_ne_logger (n : Nat) : Role.ofCode (min n 2) ≠ .logger := by
  rw [role_ofCode_min]
  split_ifs <;> decide

theorem settlePartner_inRange {station code p : Nat}
    (h : (if settlePartner station code = 255 then none else some (settlePartner station code)) = some p) :
    p ≤ 15 ∧ p ≠ station := by
  rw [settlePartner_spec] at h
  split at h
  · rename_i hc
    exact Option.some.inj h ▸ hc
  · exact absurd h nofun

theorem inRange_settleImage (img : List Byte) : InRange (settleImage img).cfg := by
  obtain ⟨hset, hmasks⟩ := derive_inRange (c := settingsOf (settleFields (rawImage img))) (Nat.min_le_right _ _)
    fun p hp => settlePartner_inRange hp
  have b : ∀ {lo hi : Nat} (v : Nat), lo ≤ hi → lo ≤ clampNat lo hi v ∧ clampNat lo hi v ≤ hi :=
    fun v h => clampNat_bounds h v
  obtain ⟨htrim, htrim'⟩ := clampTo_bounds (lo := -10000) (hi := 10000) (by decide) (intAt 8 2 img)
  refine ⟨⟨Nat.min_le_right _ _, role_ne_logger _, settlePeriod_mem _, Nat.le_of_lt_succ (natAt_lt 6 2 img), htrim, htrim',
    (b _ (by decide)).1, (b _ (by decide)).2, (b _ (by decide)).1, (b _ (by decide)).2, (b _ (by decide)).1,
    (b _ (by decide)).2, (b _ (by decide)).1, (b _ (by decide)).2, (b _ (by decide)).1, (b _ (by decide)).2⟩,
    ⟨(b _ (by decide)).1, (b _ (by decide)).2, (b _ (by decide)).1, (b _ (by decide)).2, (b _ (by decide)).1,
      (b _ (by decide)).2, (b _ (by decide)).1, (b _ (by decide)).2, (b _ (by decide)).1, (b _ (by decide)).2,
      (b _ (by decide)).1, (b _ (by decide)).2⟩, fun k hk => ?_, ⟨rfl, fun p hp => ?_⟩, hset, hmasks⟩
  · have hk : k ∈ [compOf (settleComp (rawComp 0 img)), compOf (settleComp (rawComp 1 img)),
        compOf (settleComp (rawComp 2 img))] := hk
    simp only [List.mem_cons, List.not_mem_nil, or_false] at hk
    obtain rfl | rfl | rfl := hk <;> exact compInRange_settled _ img
  · obtain ⟨j, hj⟩ := List.getElem?_of_mem hp
    rw [settleImage_probes hj]
    obtain ⟨ho, ho'⟩ := clampTo_bounds (lo := -10000) (hi := 10000) (by decide) (rawProbe j img).origin
    exact ⟨ho, ho', (b _ (by decide)).1, (b _ (by decide)).2⟩

theorem beforeLoad_limits : let c := Settings.beforeLoad
    c.period ∈ [2, 4, 8, 16] ∧ c.receiveDelay ≤ 65535 ∧ -10000 ≤ c.initialTrim ∧ c.initialTrim ≤ 10000 ∧
    10000 ≤ c.exclusion ∧ c.exclusion ≤ 100000000 ∧ 10000 ≤ c.spreadLimit ∧ c.spreadLimit ≤ 100000000 ∧
    100 ≤ c.deltaLimit ∧ c.deltaLimit ≤ 1000000 ∧ 1 ≤ c.minSamples ∧ c.minSamples ≤ 10 ∧ 100000 ≤ c.stepSize ∧
    c.stepSize ≤ 5000000 := by decide

theorem beforeLoad_times : let c := Settings.beforeLoad
    50 ≤ c.settle ∧ c.settle ≤ 1000 ∧ 2 ≤ c.cycle ∧ c.cycle ≤ 60 ∧ 10 ≤ c.polarize ∧ c.polarize ≤ 3000 ∧
    100 ≤ c.count ∧ c.count ≤ 2000 ∧ 1 ≤ c.bankLength ∧ c.bankLength ≤ 6 ∧ 10 ≤ c.statePeriod ∧
    c.statePeriod ≤ 600 := by decide

theorem inRange_settleDefaults {p : Straps} (h : p.wellFormed = true) : InRange (settleDefaults p).cfg := by
  unfold Straps.wellFormed at h
  rw [Bool.and_eq_true, decide_eq_true_eq, decide_eq_true_eq] at h
  obtain ⟨hset, hmasks⟩ := derive_inRange (c := { Settings.beforeLoad with
    station := p.station, role := Role.ofCode (min p.role 2), compAffect := 0#16 }) (Nat.le_of_lt_succ h.1) nofun
  refine ⟨⟨Nat.le_of_lt_succ h.1, role_ne_logger _, ?_⟩, ?_, fun k hk => ?_, ⟨rfl, fun q hq => ?_⟩, hset, hmasks⟩
  · exact beforeLoad_limits
  · exact beforeLoad_times
  · have hk : k ∈ List.replicate 3 CompSettings.default := hk
    rw [List.eq_of_mem_replicate hk]
    exact ⟨by decide, by decide, by decide, by decide, by decide, by decide, List.Pairwise.nil, nofun⟩
  · have hq : q ∈ List.replicate 4 ({ origin := -5000, span := 12000 } : ProbeSettings) := hq
    rw [List.eq_of_mem_replicate hq]
    decide

end Sys2Proof.Machine
end

section
/-! Whether anything of an image was clamped or cut. -/

namespace Sys2Proof.Machine

variable {s t u : State}

theorem settleFields_eq_iff (r : RawImage) : settleFields r = r ↔
    min r.station 15 = r.station ∧ min r.role 2 = r.role ∧ settlePeriod r.period = r.period ∧
    clampTo (-10000) 10000 r.initialTrim = r.initialTrim ∧ clampNat 10000 100000000 r.exclusion = r.exclusion ∧
    clampNat 10000 100000000 r.spreadLimit = r.spreadLimit ∧
    settlePartner (min r.station 15) r.partner = r.partner ∧ clampNat 100 1000000 r.deltaLimit = r.deltaLimit ∧
    clampNat 1 10 r.minSamples = r.minSamples ∧ r.comps.map settleComp = r.comps ∧
    clampNat 100000 5000000 r.stepSize = r.stepSize ∧ r.probes.map settleProbe = r.probes ∧
    clampNat 50 1000 r.settle = r.settle ∧ clampNat 2 60 r.cycle = r.cycle ∧
    clampNat 10 3000 r.polarize = r.polarize ∧ clampNat 100 2000 r.count = r.count ∧
    clampNat 1 6 r.bankLength = r.bankLength ∧ clampNat 10 600 r.statePeriod = r.statePeriod := by
  cases r
  simp only [settleFields, RawImage.mk.injEq, true_and, and_true]

theorem settleComp_eq_iff (c : RawComp) : settleComp c = c ↔
    clampNat 1 20000 c.factor = c.factor ∧ clampTo (-32) 32 c.startSteps = c.startSteps ∧ min c.probe 3 = c.probe ∧
    min c.count 16 = c.count ∧ cutTable (c.places.map settleBreakpoint) = c.places := by
  cases c
  simp only [settleComp, RawComp.mk.injEq]

theorem map_eq_iff_get {α : Type} (f : α → α) (p : Triple α) :
    p.map f = p ↔ ∀ k : Comp, f (p.get k) = p.get k := by
  obtain ⟨x, y, z⟩ := p
  simp only [Triple.map, Triple.mk.injEq]
  exact ⟨fun ⟨hx, hy, hz⟩ k => by cases k <;> assumption, fun h => ⟨h .x, h .y, h .z⟩⟩

theorem settleProbe_eq_iff (p : ProbeSettings) : settleProbe p = p ↔
    (settleProbe p).origin = p.origin ∧ (settleProbe p).span = p.span := by
  cases p
  simp only [settleProbe, ProbeSettings.mk.injEq]

/-- The component's number names its place in the image. -/
theorem rawImage_comps (img : List Byte) (k : Comp) : (rawImage img).comps.get k = rawComp k.number img := by
  cases k <;> rfl

theorem settleImage_comps (img : List Byte) (k : Comp) :
    (settleImage img).cfg.comps.get k = compOf (settleComp (rawComp k.number img)) := by
  cases k <;> rfl

theorem settleImage_probe {j : Nat} (h : j < 4) (img : List Byte) :
    (settleImage img).cfg.probes[j]? = some (settleProbe (rawProbe j img)) := by
  have hprobes : (settleImage img).cfg.probes = ((List.range 4).map fun j => rawProbe j img).map settleProbe := rfl
  rw [hprobes, List.getElem?_map, List.getElem?_map, List.getElem?_range h]
  rfl

/-- No probe's field was clamped. -/
theorem probes_kept_iff (img : List Byte) : (rawImage img).probes.map settleProbe = (rawImage img).probes ↔
    ∀ j p, (settleImage img).cfg.probes[j]? = some p →
      p.origin = intAt (42 + 4 * j) 2 img ∧ p.span = natAt (44 + 4 * j) 2 img := by
  have hraw : (rawImage img).probes = (List.range 4).map fun j => rawProbe j img := rfl
  rw [hraw, List.map_map, List.map_inj_left]
  constructor
  · intro h j p hp
    obtain ⟨hlt, -⟩ := List.getElem?_eq_some_iff.mp hp
    have hkept := h j (List.mem_range.mpr hlt)
    rw [settleImage_probes hp, show settleProbe (rawProbe j img) = rawProbe j img from hkept]
    exact ⟨rfl, rfl⟩
  · intro h j hj
    exact (settleProbe_eq_iff _).mpr (h j _ (settleImage_probe (List.mem_range.mp hj) img))

/-- No component's field was clamped, and no table cut. -/
theorem comps_kept_iff (img : List Byte) : (rawImage img).comps.map settleComp = (rawImage img).comps ↔
    ∀ k : Comp, ((settleImage img).cfg.comps.get k).factor = natAt (26 + 4 * k.number) 2 img ∧
      ((settleImage img).cfg.comps.get k).startSteps = intAt (28 + 4 * k.number) 1 img ∧
      ((settleImage img).cfg.comps.get k).probe = natAt (29 + 4 * k.number) 1 img ∧
      natAt (77 + 129 * k.number) 1 img ≤ 16 ∧
      ((settleImage img).cfg.comps.get k).table = placedTable k.number img := by
  rw [map_eq_iff_get]
  refine forall_congr' fun k => ?_
  rw [rawImage_comps, settleImage_comps, settleComp_eq_iff, placedTable_eq]
  exact and_congr_right fun _ => and_congr_right fun _ => and_congr_right fun _ => and_congr_left fun _ => min_eq_left_iff

theorem nothingClamped_iff (img : List Byte) :
    (settleImage img).clamped = false ↔ NothingClamped img (settleImage img).cfg := by
  have hclamped : (settleImage img).clamped = false ↔ settleFields (rawImage img) = rawImage img :=
    decide_eq_false_iff_not.trans not_not
  have hpartner : (settleImage img).cfg.partner.getD 255 =
      settlePartner (min (natAt 3 1 img) 15) (natAt 20 1 img) := settlePartner_getD _ _
  rw [hclamped, settleFields_eq_iff, comps_kept_iff, probes_kept_iff]
  unfold NothingClamped
  simp only [placed_eq_natAt, placedSigned_eq_intAt _ (show 0 < 2 by decide), placedSigned_eq_intAt _ (show 0 < 1 by decide),
    hpartner]
  constructor
  · rintro ⟨hstation, hrole, hperiod, htrim, hexclusion, hspread, hpartner, hdelta, hmin, hcomps, hstep, hprobes, hsettle,
      hcycle, hpolarize, hcount, hbank, hstate⟩
    exact ⟨hstation, min_eq_left_iff.mp hrole, hperiod, htrim, hexclusion, hspread, hpartner, hdelta, hmin, hstep, hsettle,
      hcycle, hpolarize, hcount, hbank, hstate, hprobes, hcomps⟩
  · rintro ⟨hstation, hrole, hperiod, htrim, hexclusion, hspread, hpartner, hdelta, hmin, hstep, hsettle, hcycle, hpolarize,
      hcount, hbank, hstate, hprobes, hcomps⟩
    exact ⟨hstation, min_eq_left_iff.mpr hrole, hperiod, htrim, hexclusion, hspread, hpartner, hdelta, hmin, hcomps, hstep,
      hprobes, hsettle, hcycle, hpolarize, hcount, hbank, hstate⟩

/-- Settles O59: the image read, each stage alone, the fields settled, and the defaults. -/
theorem imagesAreSettled : Obligations.ImagesAreSettled := by
  refine ⟨fun levels s hphase => ?image, fun s => ?stages, fun img himg =>
    ⟨fieldsSettled_settleImage img, inRange_settleImage img, nothingClamped_iff img⟩, fun p hp => inRange_settleDefaults hp⟩
  case image =>
    intro whole header held good htime
    have hwhole : takenBytes 466 levels = whole := takenBytes_eq 466 levels
    clear_value whole
    have hheld : bytesRead levels = held := by
      rw [bytesRead_eq, hwhole, ← placed_eq_natAt, ← placed_eq_natAt]
    have hplaced : ∀ k n, k + n ≤ 3 → placed k n header = placed k n whole := fun k n h => by
      rw [placed_eq_natAt, placed_eq_natAt]
      exact natAt_take h whole
    have hverdict : imageVerdict whole = .valid ↔ good := by
      rw [imageVerdict_iff, ← placed_eq_natAt, ← placed_eq_natAt, ← placed_eq_natAt]
    have hexec := fun n => imageRead_due n hheld hphase htime
    refine ⟨fun n => ?_, fun hstrap => ⟨_, hexec 8, fun hgood => ?_, fun hbad => ?_⟩⟩
    · rw [hexec, stagesThrough_eq]
      rfl
    · have hstarted := stagesThrough_image held hstrap
      have hwholeHeld : held = whole :=
        if_pos ⟨(hplaced 0 1 (by decide)).trans hgood.1, (hplaced 1 2 (by decide)).trans hgood.2.1⟩
      rw [hwholeHeld, hverdict.mpr hgood] at hstarted
      rw [hwholeHeld]
      exact hstarted
    · have hstarted := stagesThrough_image held hstrap
      have hdefaults : imageVerdict held = .defaults := by
        refine Verdict.eq_defaults fun hvalid => ?_
        by_cases hheader : placed 0 1 header = 1 ∧ placed 1 2 header = 461
        · rw [show held = whole from if_pos hheader] at hvalid
          exact hbad (hverdict.mp hvalid)
        · rw [show held = header from if_neg hheader, imageVerdict_iff, ← placed_eq_natAt, ← placed_eq_natAt] at hvalid
          exact hheader ⟨hvalid.1, hvalid.2.1⟩
      rw [hdefaults] at hstarted
      exact hstarted
  case stages =>
    refine ⟨fun h => ⟨verdictOf s, takeStage_verdict h, ?_⟩, fun h => ⟨fun hv => ?_, fun hv => ?_⟩,
      fun set h => takeStage_load h, fun clamped h => ?_, takeStage_noted, takeStage_clocked⟩
    · rw [verdictOf_iff, placed_eq_natAt, placed_eq_natAt, placed_eq_natAt]
    · rw [takeStage_settle h, settleStage_eq, hv, settledBy_valid]
      rfl
    · rw [takeStage_settle h, settleStage_eq, hv, settledBy_defaults]
      rfl
    · rw [takeStage_flagged h, startFlagged_eq]
      cases s.loader.pendingCause <;> rfl

end Sys2Proof.Machine
end
